-- ==== Sys2Proof/Word.lean ====
section
/-! DEFINITION. The plain types the whole model speaks in: bytes and fields as the loop carries them, and the numbered
objects of the node (members, strips, lanes, anchors, units, groups, ports). -/

namespace Sys2Proof

/-- One byte of a frame, a message payload or the profile memory. -/
abbrev Byte := BitVec 8

/-- A reference position: a 48-bit unsigned sample count (00_scope, Quantities). -/
abbrev Position := BitVec 48

/-- A 24-bit input sample as a local input port delivers it (R53). -/
abbrev Sample := BitVec 24

/-- A member number of the loop, 0 to 15. -/
abbrev Member := Fin 16

/-- A strip number, 0 to 31. -/
abbrev StripNo := Fin 32

/-- A lane number, 0 to 63. -/
abbrev LaneNo := Fin 64

/-- An anchor number, 0 to 31. Anchor `m` is report source `32 + m` (R63). -/
abbrev AnchorNo := Fin 32

/-- A local output slot, 0 to 31. -/
abbrev SlotNo := Fin 32

/-- A capture unit, 0 to 3. -/
abbrev UnitNo := Fin 4

/-- A local input port, 0 to 3. -/
abbrev PortNo := Fin 4

/-- A link group by its index: index `g` is the console's group `g + 1` (groups count from 1). -/
abbrev GroupNo := Fin 32

/-- A report source: strips 0 to 31, anchors 32 to 63, the node 64 (R164). -/
abbrev SourceNo := Fin 65

end Sys2Proof
end

