-- ==== Sys2Proof/Syntax.lean ====
section
/-! DEFINITION. The commands of the block: one constructor of `Instr` for each row of spec/opcode_table.json, with the
operands the row's event or message carries. Message fields stand here as they are carried (R100); yes/no fields are
bytes, since any value other than 0 reads as yes. -/

namespace Sys2Proof

/-- What the word clock gives at one nominal edge time (R170): an edge within the lock window, an edge outside it, or
no edge. The tolerance itself is not given by the manual, so the judgement is the command's operand. -/
inductive Edge where
  | within
  | outside
  | missing
deriving DecidableEq, Repr

/-- The payload of STRIP SET (R100). -/
structure StripSetFields where
  strip : Byte
  mask : Byte
  glide : BitVec 16
  group : Byte
  mode : Byte
  trim : BitVec 16
  cut : Byte
  mutes : BitVec 16
  safe : Byte
deriving DecidableEq, Repr

/-- One tap as PLACE carries it (R100). -/
structure TapField where
  lane : Byte
  coef : BitVec 16
deriving DecidableEq, Repr

/-- The payload of PLACE (R100): the four tap places stand whether or not the tap count names them. -/
structure PlaceFields where
  strip : Byte
  part : Byte
  parts : Byte
  count : Byte
  tap0 : TapField
  tap1 : TapField
  tap2 : TapField
  tap3 : TapField
deriving DecidableEq, Repr

/-- The payload of CUE (R100). -/
structure CueFields where
  strip : Byte
  position : Position
  level : BitVec 16
  ramp : BitVec 16
deriving DecidableEq, Repr

/-- The payload of CAPTURE START (R100). -/
structure CaptureStartFields where
  unit : Byte
  strip : Byte
  punchIn : Position
  punchOut : Position
  threshold : Byte
  noticeMask : Byte
  recordMember : Byte
deriving DecidableEq, Repr

/-- The payload of OUTPUT SET (R100). -/
structure OutputSetFields where
  lane : Byte
  mask : Byte
  level : BitVec 16
  mute : Byte
deriving DecidableEq, Repr

/-- The payload of REPORT CONTROL (R100). -/
structure ReportControlFields where
  mask : Byte
  meters : Byte
  notices : Byte
deriving DecidableEq, Repr

/-- The commands. A command named after a message is that message, accepted by the node (R84), from the member
`source`; every other command is an event at a pin or inside the part. A command that names what comes about inside a
larger step (JOINING, FAULT BEGUN, RUN COMPLETED, REALIGN SWITCH, ENTER RUNNING, SWAP COMPLETION, KEEPALIVE, DRAIN END,
HELD END OFFER, LEAD LAPSE, CLEARING COMPLETE, LOCK GAINED) is that larger step, taken when it brings the event about
(log entry 2), so it carries the larger step's operands and names the object the event falls to. -/
inductive Instr where
  | powerReset
  | powerResetRelease (straps : Member)
  /-- `memory` is the serial profile memory's content, or `none` when the memory does not answer the read (R169). -/
  | profileReadEnd (memory : Option (List Byte))
  | lockGained
  | lossOfLock
  | joining (frame : List Byte)
  | quietWindowEnd
  | frameArrival (frame : List Byte)
  | frameEmission
  | faultBegun (anchor : AnchorNo)
  | runCompleted (anchor : AnchorNo)
  | realignSwitch (anchor : AnchorNo)
  | enterRunning (anchor : AnchorNo)
  | insertion
  | inflightTimeout
  | historyAdvance
  /-- `samples` are the 32 input channels' samples of the period, channel 0 first (R53). -/
  | sampleProcessing (samples : List Sample)
  | swapCompletion (strip : StripNo) (samples : List Sample)
  | outputProcessing
  | referenceEvent (position : Position) (rolling : Bool) (valid : Bool)
  | keepalive (unit : UnitNo) (position : Position)
  | packingTurn (unit : UnitNo)
  | drainEnd (unit : UnitNo)
  | heldEndOffer (unit : UnitNo)
  | agingEvent
  | leadLapse (group : GroupNo)
  | censusClearing
  | clearingComplete
  | refreshWalkTurn
  | meterEvent
  | scannerVisit
  | inputFramingLost (port : PortNo)
  | inputFramingGained (port : PortNo)
  | stripSet (source : Member) (fields : StripSetFields)
  | place (source : Member) (fields : PlaceFields)
  | muteGroup (source : Member) (group : Byte) (state : Byte)
  | cue (source : Member) (fields : CueFields)
  | cueFlush (source : Member) (strip : Byte)
  | touch (source : Member) (strip : Byte) (touched : Byte)
  | fader (source : Member) (strip : Byte) (level : BitVec 16)
  | solo (source : Member) (strip : Byte) (state : Byte)
  | soloOn (source : Member) (strip : Byte)
  | soloRefresh (source : Member) (strip : Byte)
  | soloOff (source : Member) (strip : Byte)
  | censusSweep (source : Member)
  | groupClaim (source : Member) (group : Byte) (strip : Byte)
  | groupRelease (source : Member) (group : Byte) (strip : Byte)
  | groupDelta (source : Member) (group : Byte) (strip : Byte) (change : BitVec 16)
  | captureStart (source : Member) (fields : CaptureStartFields)
  | captureStop (source : Member) (unit : Byte)
  | captureSuspend (source : Member) (unit : Byte)
  | captureResume (source : Member) (unit : Byte)
  | captureClear (source : Member) (unit : Byte)
  | outputSet (source : Member) (fields : OutputSetFields)
  | reportControl (source : Member) (fields : ReportControlFields)
  | queryStrip (source : Member) (object : Byte) (clear : Byte)
  | queryCues (source : Member) (object : Byte) (clear : Byte)
  | queryCensus (source : Member) (object : Byte) (clear : Byte)
  | queryGroup (source : Member) (object : Byte) (clear : Byte)
  | queryCapture (source : Member) (object : Byte) (clear : Byte)
  | queryAnchor (source : Member) (object : Byte) (clear : Byte)
  | queryCounters (source : Member) (object : Byte) (clear : Byte)
  | nodeReset (source : Member)
  | wordClockEdge (edge : Edge)
deriving DecidableEq, Repr

end Sys2Proof
end

