-- ==== Sys2Proof/Decode.lean ====
section
/-! DEFINITION. The block takes commands, not instruction words: no row of spec/opcode_table.json gives bits, so no word
spells a command (log entry 6). -/

namespace Sys2Proof

/-- The command a word of `nbits` bits spells by the table's bits. The table gives no row any bits. -/
def decodeTableWord (_nbits _w : Nat) : Option Instr := none

end Sys2Proof
end

