-- ==== Sys2Proof/Machine/Records.lean ====
section
/-! DEFINITION. The records the blocks of the node keep, one structure or inductive type for each thing the manual names.
No behaviour stands here. -/

namespace Sys2Proof.Machine

open Sys2Proof

/-! ### Clock and Start (chapter 11) -/

/-- The start states of section 11.1. -/
inductive StartState where
  | reset
  | loading
  | unlocked
  | passing
  | joined
deriving DecidableEq, Repr

/-- One acceptance range of the profile (R84). -/
structure AcceptRange where
  base : Byte
  mask : Byte
  enabled : Bool
deriving DecidableEq, Repr

/-- The profile as taken, every field within its range (R169). `aging`, `latency`, `meter` and `glide` are periods. -/
structure Profile where
  reportMember : Member
  range1 : AcceptRange
  range2 : AcceptRange
  aging : Nat
  latency : Nat
  meter : Nat
  glide : Nat
deriving DecidableEq, Repr

/-- One anchor entry as the profile memory stores it, before R63 judges it. -/
structure AnchorEntry where
  lane : Nat
  slot : Nat
  level : Int
deriving DecidableEq, Repr

/-- Which of the once-a-period events the current period has already had (log entry 3). -/
structure Taken where
  advanced : Bool
  sampled : Bool
  output : Bool
  referenced : Bool
  cleared : Bool
  walked : Bool
  visited : Bool
  turns : Vector Bool 4
deriving DecidableEq, Repr

/-- Clock and Start. `period` numbers the periods that have passed and `taken` says what the current one has had: both
are the model's own (log entries 1 and 3). `referenced` is no until the first reference event after power reset
(R168, R173). -/
structure Clock where
  start : StartState
  member : Member
  profile : Profile
  lockCount : Nat
  goodArrivals : Nat
  rolling : Bool
  position : Position
  referenced : Bool
  ports : Vector Bool 4
  period : Nat
  taken : Taken
deriving DecidableEq, Repr

/-! ### Frames and the Loop Port (chapter 1) -/

/-- One lane of a frame as the Lane Adder reads it (R11): live with an age, or ORPHAN. -/
inductive Lane where
  | live (age : Fin 16) (value : Int)
  | orphan
deriving DecidableEq, Repr

/-- One message in a slot: the four header bytes and the 28 payload bytes of R81. -/
structure Message where
  kind : Byte
  source : Byte
  dest : Byte
  hop : Byte
  payload : Vector Byte 28
deriving DecidableEq, Repr

/-- A frame as emitted (R2, R100), before it is laid out in bytes. -/
structure Frame where
  emitter : Member
  regenerated : Bool
  lanes : Vector Lane 64
  slot : Option Message
deriving DecidableEq, Repr

/-- A good arrival waiting in the hop buffer: its lanes unaltered, and the slot its emission carries before insertion is
judged, with whether that slot is offered for insertion (R3, R82). -/
structure HopEntry where
  lanes : Vector Lane 64
  slot : Option Message
  offered : Bool
deriving DecidableEq, Repr

/-- What the current period has received so far: no frame yet, a bad first arrival, or a good one (R3, R7). -/
inductive Arrival where
  | awaiting
  | bad
  | good (entry : HopEntry)
deriving DecidableEq, Repr

/-- The Loop Port. `current` and `previous` are the arrivals of this period and the one before; `due` is the arrival of two
periods before, whose emission falls in this period. `transmit` is the frame this period has emitted on the loop
transmit link, if it has. -/
structure LoopPort where
  upstream : Option Member
  current : Arrival
  previous : Option HopEntry
  due : Option HopEntry
  transmit : Option Frame
deriving DecidableEq, Repr

/-! ### Lane Adder (section 1.5) -/

/-- One value for each of the 64 lanes. -/
abbrev LaneRow := Vector Int 64

/-- The Lane Adder: the contribution history, row `d` holding the 64 entries at depth `d` (R14), and the sums the Strip
Engine has handed over, which the next advance takes (R61). -/
structure LaneAdder where
  history : Vector LaneRow 31
  handed : LaneRow
deriving DecidableEq, Repr

/-! ### Strip Engine (chapters 2 and 3) -/

/-- The automation modes of R101. -/
inductive Mode where
  | manual
  | read
  | touch
  | latch
deriving DecidableEq, Repr

/-- One tap of a placement: a lane and a tap coefficient, 32768 being 1.0. -/
structure Tap where
  lane : LaneNo
  coef : Nat
deriving DecidableEq, Repr

/-- The five ramp fields of R46; the anchors' master ramp has the same five (R64). `target` is the target coefficient. -/
structure Ramp where
  applied : Nat
  start : Nat
  target : Nat
  length : Nat
  step : Nat
deriving DecidableEq, Repr

/-- A strip record (R24). `mutes` has bit `g - 1` for group `g`. -/
structure Strip where
  trim : Int
  mode : Mode
  live : Int
  auto : Int
  touched : Bool
  latched : Bool
  linkGroup : Option GroupNo
  offset : Int
  cut : Bool
  mutes : BitVec 16
  soloed : Bool
  safe : Bool
  glide : Nat
  placement : List Tap
  staged : Option (List Tap)
  incoming : Option (List Tap)
  swapPending : Bool
  ramp : Ramp
  peak : Nat
  binding : Option UnitNo
deriving DecidableEq, Repr

/-- The Strip Engine: the 32 records and the node's active mute groups (R34). -/
structure StripEngine where
  strips : Vector Strip 32
  activeMutes : BitVec 16
deriving DecidableEq, Repr

/-! ### Cue Store (section 6.5) -/

/-- A cue: when it is due, the automation level it sets, and the length of the ramp it starts. -/
structure Cue where
  position : Position
  level : Int
  ramp : Nat
deriving DecidableEq, Repr

/-! ### Keys and the Group Table (chapters 7 and 8) -/

/-- A strip key (member, strip). -/
structure Key where
  member : Member
  strip : StripNo
deriving DecidableEq, Repr

/-- An entry of the Group Table (R134). The field `local` of the manual is whether the lead names this node's member
number, and is read from the lead. -/
structure GroupEntry where
  lead : Option Key
  silent : Nat
  mark : Bool
deriving DecidableEq, Repr

/-! ### Census (chapter 7) -/

/-- A link entry in use, at its place in a chain: which of the 64 entries it is, and the key it holds. -/
structure ChainLink where
  entry : Fin 64
  key : Key
deriving DecidableEq, Repr

/-- An occupied home entry with its chain, in the order of the links (R121). -/
structure HomeEntry where
  key : Key
  chain : List ChainLink
deriving DecidableEq, Repr

/-- One census table: 128 home entries and the free stack of link entries, top first (R121). -/
structure CensusTable where
  home : Vector (Option HomeEntry) 128
  free : List (Fin 64)
deriving DecidableEq, Repr

/-- Which of T0, T1 and T2 holds each role. -/
structure Roles where
  current : Fin 3
  next : Fin 3
  empty : Fin 3
deriving DecidableEq, Repr

/-- The Census: tables, roles, the clearing in progress by the next home entry it takes, the held rotation, the aging
timer's count, the strips' refresh-pending marks (the groups' marks stand in the Group Table), the local solo count and
solo active. -/
structure Census where
  tables : Vector CensusTable 3
  roles : Roles
  clearing : Option (Fin 128)
  held : Bool
  agingCount : Nat
  marks : Vector Bool 32
  localSolo : Nat
  soloActive : Bool
deriving DecidableEq, Repr

/-! ### Capture Units (chapter 9) -/

/-- The unit states of section 9.1. -/
inductive UnitState where
  | idle
  | armed
  | writing
  | suspended
  | draining
  | ended
deriving DecidableEq, Repr

/-- A capture's settings. `noticeMask` is a set of end conditions, by the bits of R100. -/
structure CaptureSettings where
  strip : StripNo
  punchIn : Position
  punchOut : Position
  threshold : Nat
  noticeMask : Byte
  recordMember : Member
deriving DecidableEq, Repr

/-- A record in a unit's buffer, with the period in which it was formed (R147). `flags` are by the bits of R100. -/
structure Record where
  position : Position
  level : Int
  flags : Byte
  formed : Nat
deriving DecidableEq, Repr

/-- The end record of R159. -/
structure EndRecord where
  conditions : Byte
  lastPosition : Option Position
  recordsSent : Nat
  overruns : Nat
deriving DecidableEq, Repr

/-- A capture unit (R147). `lastPosition` is the position of the last record formed, which the end record of R159 needs
whether or not the buffer took that record. -/
structure CaptureUnit where
  state : UnitState
  bound : Option StripNo
  settings : CaptureSettings
  buffer : List Record
  marks : Byte
  lastLevel : Option Int
  keepalive : Nat
  recordsSent : Nat
  overruns : Nat
  conditions : Byte
  endRecord : Option EndRecord
  lastPosition : Option Position
deriving DecidableEq, Repr

/-! ### Anchor Outputs (chapter 4) -/

/-- The output states of section 4.7. -/
inductive OutputState where
  | silent
  | settling
  | rising
  | running
  | realignDown
  | realignUp
deriving DecidableEq, Repr

/-- An anchor (R64). `profileLevel` is the profile entry's level, to which a NODE RESET returns `level`. The output delay D
is read from the settled age by R67. -/
structure Anchor where
  lane : LaneNo
  slot : SlotNo
  profileLevel : Int
  state : OutputState
  delay : Vector Int 238
  lastWritten : Int
  badRun : Nat
  faulted : Bool
  candidateAge : Option (Fin 16)
  candidateRun : Nat
  settledAge : Option (Fin 16)
  pendingAge : Option (Fin 16)
  level : Int
  mute : Bool
  ramp : Ramp
  peak : Nat
deriving DecidableEq, Repr

/-- The Anchor Outputs: the anchors in anchor-number order, and the sample each of the 32 output slots carries. -/
structure AnchorOutputs where
  anchors : List Anchor
  slots : Vector Int 32
deriving DecidableEq, Repr

/-- The arrival record handed to an Anchor Output (R19). -/
inductive HandOff where
  | good (value : Int) (age : Fin 16)
  | bad
deriving DecidableEq, Repr

/-! ### Report Scanner (chapter 10) -/

/-- The notice events of section 10.5. -/
inductive NoticeEvent where
  | over
  | cueLate
  | cueOverflow
  | linkClamp
  | clip
  | faultBegun
  | faultEnded
  | realigned
  | censusOverflow
  | staleDelta
  | leadLapsed
  | memberClash
  | stray
  | lost
  | outboundDrop
  | inputFault
  | positionFault
  | profileFault
deriving DecidableEq, Repr

/-- An event vector: the set of latched events, by the bits of R100, and the combine count (R164). -/
structure EventVector where
  events : BitVec 24
  count : Nat
deriving DecidableEq, Repr

/-- The Report Scanner. -/
structure Reports where
  meterCount : Nat
  metersOn : Bool
  inhibited : Bool
  scan : SourceNo
  vectors : Vector EventVector 65
deriving DecidableEq, Repr

/-! ### Message Unit (chapter 5) -/

/-- The eight node counters of R99. -/
structure Counters where
  stray : Nat
  lost : Nat
  outboundDrop : Nat
  clash : Nat
  missing : Nat
  surplus : Nat
  staleDelta : Nat
  censusOverflow : Nat
deriving DecidableEq, Repr

/-- An in-flight entry: the message's kind and the period of its emission (R87). -/
structure InFlight where
  kind : Byte
  period : Nat
deriving DecidableEq, Repr

/-- The refusal reasons of R97. -/
inductive Reason where
  | malformed
  | busy
  | notReady
deriving DecidableEq, Repr

/-- What a QUERY of STRIP reports of a record: every field except the ramp fields and the peak (R24). -/
structure StripReport where
  number : StripNo
  trim : Int
  mode : Mode
  live : Int
  auto : Int
  touched : Bool
  latched : Bool
  linkGroup : Option GroupNo
  offset : Int
  cut : Bool
  mutes : BitVec 16
  soloed : Bool
  safe : Bool
  glide : Nat
  placement : List Tap
  staged : Option (List Tap)
  incoming : Option (List Tap)
  swapPending : Bool
  binding : Option UnitNo
deriving DecidableEq, Repr

/-- The summary part of the REPLY to a QUERY of CENSUS (R132). -/
structure CensusSummary where
  roles : Roles
  currentPopulation : Nat
  nextPopulation : Nat
  freeDepths : List Nat
  clearing : Option (Fin 128)
  held : Bool
  agingCount : Nat
  agingInterval : Nat
  localSolo : Nat
  soloActive : Bool
deriving DecidableEq, Repr

/-- The REPLY part of a QUERY of GROUP (R146). -/
structure GroupReport where
  group : GroupNo
  lead : Option Key
  isLocal : Bool
  silent : Nat
  mark : Bool
  members : List StripNo
  waiters : List StripNo
deriving DecidableEq, Repr

/-- Part 1 of the REPLY to a QUERY of CAPTURE (R161). -/
structure CaptureReport where
  state : UnitState
  bound : Option StripNo
  settings : CaptureSettings
  buffered : Nat
  marks : Byte
  recordsSent : Nat
  overruns : Nat
  conditions : Byte
  keepalive : Nat
  lastLevel : Option Int
deriving DecidableEq, Repr

/-- What a QUERY of ANCHOR reports of an anchored lane (R80). -/
structure AnchorReport where
  number : Nat
  slot : SlotNo
  state : OutputState
  settledAge : Option (Fin 16)
  outputDelay : Option Nat
  pendingAge : Option (Fin 16)
  candidateAge : Option (Fin 16)
  candidateRun : Nat
  badRun : Nat
  faulted : Bool
  level : Int
  mute : Bool
  appliedMaster : Nat
  masterTarget : Nat
  lastWritten : Int
deriving DecidableEq, Repr

/-- The REPLY part of a QUERY of COUNTERS (R98). -/
structure CountersReport where
  counters : Counters
  upstream : Option Member
  queued : Nat
  inFlight : Nat
deriving DecidableEq, Repr

/-- One REPLY part's share of an answer, by its named fields. Where the manual does not say which fields of an answer go
into which of its parts (STRIP, ANCHOR), the share is the whole answer beside the part's number. -/
inductive ReplyShare where
  | strip (part : Nat) (report : StripReport) (activeMutes : BitVec 16)
  | cues (cues : List Cue)
  | censusSummary (summary : CensusSummary)
  | censusKeys (keys : List Key)
  | group (report : GroupReport)
  | captureUnit (report : CaptureReport)
  | captureEnd (record : Option EndRecord)
  | anchor (part : Nat) (lane : LaneNo) (report : Option AnchorReport)
  | counters (report : CountersReport)
deriving DecidableEq, Repr

/-- One record as CAPTURE RECORDS carries it (R154). -/
structure PackedRecord where
  offset : Nat
  level : Int
  flags : Byte
deriving DecidableEq, Repr

/-- The kinds of message the node itself sends, with their payloads by named fields. -/
inductive Body where
  | soloOn (strip : StripNo)
  | soloRefresh (strip : StripNo)
  | soloOff (strip : StripNo)
  | claim (group : GroupNo) (strip : StripNo)
  | release (group : GroupNo) (strip : StripNo)
  | delta (group : GroupNo) (strip : StripNo) (change : Int)
  | reply (item : Byte) (object : Byte) (part : Nat) (parts : Nat) (share : ReplyShare)
  | refusal (kind : Byte) (object : Byte) (reason : Reason)
  | meter (anchors : Bool) (block : Nat) (codes : List Nat)
  | notice (source : SourceNo) (events : BitVec 24) (count : Nat)
  | records (unit : UnitNo) (base : Position) (records : List PackedRecord)
  | captureEnd (unit : UnitNo) (record : EndRecord)
deriving DecidableEq, Repr

/-- An entry of the outbound queue: kind and payload, and a destination (R92). -/
structure OutMsg where
  dest : Byte
  body : Body
deriving DecidableEq, Repr

/-- The Message Unit. `quiet` is the period of the joining whose quiet window was last started (R89). -/
structure MessageUnit where
  outbound : List OutMsg
  inFlight : List InFlight
  quiet : Option Nat
  counters : Counters
deriving DecidableEq, Repr

end Sys2Proof.Machine
end

