-- ==== Sys2Proof/Config.lean ====
section
/-! DEFINITION. The values the manual leaves open. Each is a constant without a body, so no proof can see what it is and a
claim holds whatever it is. -/

namespace Sys2Proof.Config

open Sys2Proof.Machine

/-- FREE VALUE (log entry 7). Byte `k` (0 to 23) of the 24 bytes in which a REPLY part carries its share of an answer: R100
names the fields and says that their arrangement within bytes 4 to 27 is not given. -/
opaque replyByte : ReplyShare → Nat → Byte

/-- FREE VALUE (log entry 7). The key place, of the twelve of a CENSUS key part, that byte `k` of the share belongs to; a value
of 12 or more is a byte that belongs to none. R132 says what an unused place holds, and R100 that the arrangement is not given. -/
opaque keyPlace : Nat → Nat

/-- FREE VALUE (log entry 8). Whether, at the change to parked of the given period, the capture units take the park before
the strips do: R155 says that either order may be. -/
opaque captureBeforePark : Nat → Bool

/-- FREE VALUE (log entry 8). Whether, at the position event of the given period, the capture units take their samplings
before the cues fire: R151 records the level that holds when the sampling is taken and no rule sets the order. -/
opaque captureBeforeCues : Nat → Bool

end Sys2Proof.Config
end

