-- ==== Sys2Proof/Machine/Arith.lean ====
section
/-! DEFINITION. The node's integer arithmetic: clamping, the one rounding rule (R55), level to coefficient (R43), ramps
(R46 to R49), and the strip's summed level and target (R42, R44, R101). -/

namespace Sys2Proof.Machine

open Sys2Proof

/-- "Clamped": a value outside `lo … hi` becomes the nearer end (00_scope, Arithmetic). -/
def clamp (lo hi x : Int) : Int := max lo (min hi x)

/-- A counter or count that holds at `limit` instead of passing it. -/
def holdAt (limit n : Nat) : Nat := min limit n

/-- A node counter or 16-bit count raised by one, holding at 65535. -/
def raise16 (n : Nat) : Nat := holdAt 65535 (n + 1)

/-- "Saturated": clamped to the range of a lane value (R17). -/
def saturate (x : Int) : Int := clamp (-2147483648) 2147483647 x

/-- R55: half the divisor is added and the floor of the quotient taken. The division of `Int` by a positive number is the
floor. -/
def roundDiv (x : Int) (d : Nat) : Int := (x + (d / 2 : Nat)) / (d : Int)

/-- The range of a fader level and of a master level. -/
def clampLevel (x : Int) : Int := clamp (-1440) 120 x

/-! ### Level to coefficient (R43) -/

/-- Whether `n - 1/2` is at or below 4,194,304 × 10^(L/200), in whole numbers: with `L = r - 200 k` and `0 ≤ r < 200`, it
is so exactly when `((2 n - 1) × 10^k)^200 ≤ 8,388,608^200 × 10^r`. For `n = 0` the left side is taken as 0. -/
def halfBelow (level : Int) (n : Nat) : Bool :=
  ((2 * n - 1) * 10 ^ (-(level / 200)).toNat) ^ 200 ≤ 8388608 ^ 200 * 10 ^ (level % 200).toNat

/-- The greatest `n` of `bits` further binary places above `acc` for which `halfBelow` holds. -/
def coefSearch (level : Int) : Nat → Nat → Nat
  | 0, acc => acc
  | bits + 1, acc =>
    bif halfBelow level (acc + 2 ^ bits) then coefSearch level bits (acc + 2 ^ bits)
    else coefSearch level bits acc

/-- R43: the coefficient of a level. At −1000 and below it is 0; up to +120 it is the integer nearest to
4,194,304 × 10^(L/200), the greatest integer that exceeds that number by at most a half. Levels stop at +120 (R42, R74). -/
def coef (level : Int) : Nat :=
  if level ≤ -1000 then 0 else coefSearch (min level 120) 24 0

/-! ### Ramps (R46 to R49; R72 and R73 for the anchors) -/

/-- R46: a ramp is in progress while k is less than R. -/
def Ramp.inProgress (r : Ramp) : Bool := decide (r.step < r.length)

/-- R49: one step. The product is formed exactly and the division truncates toward zero. -/
def Ramp.stepOnce (r : Ramp) : Ramp :=
  { r with
    step := r.step + 1
    applied := ((r.start : Int) + (((r.target : Int) - r.start) * (r.step + 1)).tdiv r.length).toNat }

/-- R54 item 1: one step if the ramp is in progress. -/
def Ramp.advance (r : Ramp) : Ramp := if r.inProgress then r.stepOnce else r

/-- R45 and R48: a recomputed target that equals the current one changes nothing; another one restarts the ramp from the
applied coefficient with the length of the event's cause. -/
def Ramp.retarget (target length : Nat) (r : Ramp) : Ramp :=
  if target = r.target then r
  else { applied := r.applied, start := r.applied, target, length, step := 0 }

/-- The reset value of the five ramp fields (R46, R64). -/
def Ramp.rest : Ramp := { applied := 0, start := 0, target := 0, length := 0, step := 0 }

/-! ### Ramp causes (R25, R47, R72) -/

/-- Cut, mute group, solo-cut, swap dip and swap return; entering RISING, REALIGN DOWN or REALIGN UP; operator mute. -/
def shortRamp : Nat := 96

/-- Live fader move, trim change and link delta; a change of master level. -/
def moveRamp : Nat := 240

/-! ### A strip's level and target -/

/-- R101 and R31: whether the live level is in force. -/
def Strip.liveInForce (st : Strip) : Bool :=
  match st.mode with
  | .manual => true
  | .read => false
  | .touch => st.touched
  | .latch => st.touched || st.latched

/-- R101: the effective fader. -/
def Strip.effective (st : Strip) : Int := if st.liveInForce then st.live else st.auto

/-- R42: the summed level. -/
def Strip.summed (st : Strip) : Int := clampLevel (st.effective + st.trim + st.offset)

/-- R35: muted while the strip's mute-group set and the node's active mute groups share a group. -/
def Strip.muted (active : BitVec 16) (st : Strip) : Bool := st.mutes &&& active != 0#16

/-- R44: whether any of the four zero causes holds. -/
def Strip.zeroCause (soloActive : Bool) (active : BitVec 16) (st : Strip) : Bool :=
  st.cut || st.muted active || (soloActive && !st.soloed && !st.safe) || st.swapPending

/-- R44: the target coefficient. -/
def Strip.target (soloActive : Bool) (active : BitVec 16) (st : Strip) : Nat :=
  if st.zeroCause soloActive active then 0 else coef st.summed

/-- R45: recompute the target, with the ramp length of the event's cause. -/
def Strip.retarget (soloActive : Bool) (active : BitVec 16) (length : Nat) (st : Strip) : Strip :=
  { st with ramp := st.ramp.retarget (st.target soloActive active) length }

/-! ### An anchor's delay and target -/

/-- R67: the output delay D for a settled age, Λ − 1 − 2(a + 1). -/
def outputDelay (latency : Nat) (age : Fin 16) : Nat := latency - 1 - 2 * (age.val + 1)

/-- R64, R67: D is present exactly while a settled age is. -/
def Anchor.delayDepth (latency : Nat) (a : Anchor) : Option Nat := a.settledAge.map (outputDelay latency)

/-- R72: the master target. -/
def Anchor.target (a : Anchor) : Nat :=
  if a.mute then 0
  else match a.state with
    | .silent | .settling | .realignDown => 0
    | .rising | .running | .realignUp => coef a.level

/-- R72: recompute the master target, with the ramp length of the event. -/
def Anchor.retarget (length : Nat) (a : Anchor) : Anchor :=
  { a with ramp := a.ramp.retarget a.target length }

end Sys2Proof.Machine
end

