-- ==== Sys2Proof/Machine/Resets.lean ====
section
/-! DEFINITION. The reset values of every block's records, from the chapter that owns each. -/

namespace Sys2Proof.Machine

open Sys2Proof

/-- R169: the default profile. -/
def Profile.default : Profile :=
  { reportMember := 0
    range1 := { base := 0#8, mask := 0#8, enabled := false }
    range2 := { base := 0#8, mask := 0#8, enabled := false }
    aging := 96000
    latency := 48
    meter := 4800
    glide := 12000 }

/-- A period that has had none of its once-a-period events yet. -/
def Taken.none : Taken :=
  { advanced := false, sampled := false, output := false, referenced := false, cleared := false, walked := false
    visited := false, turns := Vector.replicate 4 false }

/-- R168, R170 to R174: Clock and Start at power reset, held in RESET. -/
def Clock.powerReset : Clock :=
  { start := .reset, member := 0, profile := Profile.default, lockCount := 0, goodArrivals := 0, rolling := false
    position := 0#48, referenced := false, ports := Vector.replicate 4 false, period := 0, taken := Taken.none }

/-- R9, R10: the Loop Port at power reset. -/
def LoopPort.powerReset : LoopPort :=
  { upstream := none, current := .awaiting, previous := none, due := none, transmit := none }

/-- A lane row of zeros. -/
def zeroRow : LaneRow := Vector.replicate 64 0

/-- R14: the history at every reset and at loss of lock. -/
def LaneAdder.zero : LaneAdder := { history := Vector.replicate 31 zeroRow, handed := zeroRow }

/-- R24: a strip record after either reset, with the profile's default glide. -/
def Strip.reset (glide : Nat) : Strip :=
  { trim := 0, mode := .manual, live := -1440, auto := -1440, touched := false, latched := false, linkGroup := none
    offset := 0, cut := false, mutes := 0#16, soloed := false, safe := false, glide, placement := [], staged := none
    incoming := none, swapPending := false, ramp := Ramp.rest, peak := 0, binding := none }

/-- R24, R34: the Strip Engine after either reset. -/
def StripEngine.reset (glide : Nat) : StripEngine :=
  { strips := Vector.replicate 32 (Strip.reset glide), activeMutes := 0#16 }

/-- R106: every cue list empty. -/
def noCues : Vector (List Cue) 32 := Vector.replicate 32 []

/-- R134: an entry of the Group Table after either reset. -/
def GroupEntry.reset : GroupEntry := { lead := none, silent := 0, mark := false }

/-- R134: the Group Table after either reset. -/
def groupsReset : Vector GroupEntry 32 := Vector.replicate 32 GroupEntry.reset

/-- R121: a vacant table, link entry 0 on top of the free stack and entry 63 at the bottom. -/
def CensusTable.vacant : CensusTable :=
  { home := Vector.replicate 128 none, free := List.finRange 64 }

/-- R121, R125, R130, R133: the Census after either reset. -/
def Census.reset : Census :=
  { tables := Vector.replicate 3 CensusTable.vacant, roles := { current := 0, next := 1, empty := 2 }, clearing := none
    held := false, agingCount := 0, marks := Vector.replicate 32 false, localSolo := 0, soloActive := false }

/-- R147: settings all 0 and the mask empty. -/
def CaptureSettings.zero : CaptureSettings :=
  { strip := 0, punchIn := 0#48, punchOut := 0#48, threshold := 0, noticeMask := 0#8, recordMember := 0 }

/-- R147: a capture unit after either reset. -/
def CaptureUnit.reset : CaptureUnit :=
  { state := .idle, bound := none, settings := CaptureSettings.zero, buffer := [], marks := 0#8, lastLevel := none
    keepalive := 0, recordsSent := 0, overruns := 0, conditions := 0#8, endRecord := none, lastPosition := none }

/-- R147: the four units after either reset. -/
def unitsReset : Vector CaptureUnit 4 := Vector.replicate 4 CaptureUnit.reset

/-- R64: an anchor as either reset leaves it. -/
def Anchor.initial (lane : LaneNo) (slot : SlotNo) (level : Int) : Anchor :=
  { lane, slot, profileLevel := level, state := .silent, delay := Vector.replicate 238 0, lastWritten := 0, badRun := 0
    faulted := false, candidateAge := none, candidateRun := 0, settledAge := none, pendingAge := none, level
    mute := false, ramp := Ramp.rest, peak := 0 }

/-- R64, R78: an anchor at NODE RESET. -/
def Anchor.reset (a : Anchor) : Anchor := Anchor.initial a.lane a.slot a.profileLevel

/-- R64, R78: an anchor at loss of lock. Master level, operator mute and peak are kept. -/
def Anchor.lossOfLock (a : Anchor) : Anchor :=
  { a.reset with level := a.level, mute := a.mute, peak := a.peak }

/-- R77: output ports that carry silence. -/
def silentSlots : Vector Int 32 := Vector.replicate 32 0

/-- R164: the empty vector. -/
def EventVector.empty : EventVector := { events := 0#24, count := 0 }

/-- R162, R164 to R167: the Report Scanner after either reset. -/
def Reports.reset : Reports :=
  { meterCount := 0, metersOn := true, inhibited := false, scan := 0, vectors := Vector.replicate 65 EventVector.empty }

/-- R99: all eight counters at 0. -/
def Counters.zero : Counters :=
  { stray := 0, lost := 0, outboundDrop := 0, clash := 0, missing := 0, surplus := 0, staleDelta := 0
    censusOverflow := 0 }

/-- R87, R89, R92, R99: the Message Unit after either reset. -/
def MessageUnit.reset : MessageUnit := { outbound := [], inFlight := [], quiet := none, counters := Counters.zero }

end Sys2Proof.Machine
end

