-- ==== Sys2Proof/Machine/State.lean ====
section
/-! DEFINITION. The state of the block, one field for each of its blocks as section "Block overview" of spec/00_scope.md
lists them (Clock and Start, Loop Port, Lane Adder, Strip Engine, Cue Store, Message Unit, Census, Group Table, Capture
Units, Anchor Outputs, Report Scanner), and the queue of commands that wait. -/

namespace Sys2Proof.Machine

open Sys2Proof

structure State where
  clock : Clock
  port : LoopPort
  adder : LaneAdder
  engine : StripEngine
  cues : Vector (List Cue) 32
  message : MessageUnit
  census : Census
  groups : Vector GroupEntry 32
  units : Vector CaptureUnit 4
  outputs : AnchorOutputs
  reports : Reports
  /-- The commands waiting, first in first out: the model's own field (log entry 5). -/
  pending : List Instr
deriving DecidableEq, Repr

/-- The reasons the block stops. It has none: no rule of the manual stops the part, and every condition a rule calls a
fault is an effect on the state that the part goes on from (log entry 9). -/
inductive Fault where
deriving DecidableEq, Repr

/-- The reasons a command is turned away without a meaning. -/
inductive Refusal where
  /-- Raised by `exec` for a command that has no meaning in this model, by its mnemonic: safe, since nothing is claimed
  of it. No arm raises it. -/
  | notModelled (mnemonic : String)
deriving DecidableEq, Repr

/-- The machine right after power reset is applied: held in RESET with every block at its power-reset value (R168), no
anchor, the output slots silent (R77), and no command waiting. -/
def State.reset : State :=
  { clock := Clock.powerReset
    port := LoopPort.powerReset
    adder := LaneAdder.zero
    engine := StripEngine.reset Profile.default.glide
    cues := noCues
    message := MessageUnit.reset
    census := Census.reset
    groups := groupsReset
    units := unitsReset
    outputs := { anchors := [], slots := silentSlots }
    reports := Reports.reset
    pending := [] }

end Sys2Proof.Machine
end

