-- ==== Sys2Proof/Machine/Flags.lean ====
section
/-! DEFINITION. The bit sets of R100 (notice events, end conditions, record flags), latching into the event vectors (R164),
and the node counters (R99). -/

namespace Sys2Proof.Machine

open Sys2Proof

/-- Notice event bits, R100 "Codes of enumerated fields". -/
def NoticeEvent.bit : NoticeEvent → Nat
  | .over => 0
  | .cueLate => 1
  | .cueOverflow => 2
  | .linkClamp => 3
  | .clip => 4
  | .faultBegun => 5
  | .faultEnded => 6
  | .realigned => 7
  | .censusOverflow => 8
  | .staleDelta => 9
  | .leadLapsed => 10
  | .memberClash => 11
  | .stray => 12
  | .lost => 13
  | .outboundDrop => 14
  | .inputFault => 15
  | .positionFault => 16
  | .profileFault => 17

/-- The event set that holds one event. -/
def NoticeEvent.set (e : NoticeEvent) : BitVec 24 := 1#24 <<< e.bit

/-- R164: the event joins the set and the combine count rises by one, holding at 255. -/
def EventVector.latch (v : EventVector) (e : NoticeEvent) : EventVector :=
  { events := v.events ||| e.set, count := holdAt 255 (v.count + 1) }

/-- Several latches of one vector, one after another. -/
def EventVector.latchAll (v : EventVector) (es : List NoticeEvent) : EventVector := es.foldl EventVector.latch v

/-- Report sources 0 to 31 are the strips (R164). -/
def stripSource (n : StripNo) : SourceNo := ⟨n.val, by omega⟩

/-- Report sources 32 to 63 are the anchors (R63, R164). -/
def anchorSource (m : AnchorNo) : SourceNo := ⟨32 + m.val, by omega⟩

/-- Report source 64 is the node (R164). -/
def nodeSource : SourceNo := 64

/-- Latch one event in the vector of one source. -/
def State.latch (source : SourceNo) (e : NoticeEvent) (s : State) : State :=
  { s with reports.vectors := s.reports.vectors.set source (s.reports.vectors[source].latch e) }

/-- Latch one event in the node's own vector. -/
def State.latchNode (e : NoticeEvent) (s : State) : State := s.latch nodeSource e

/-- Latch, for every strip at once, the events listed for it. -/
def State.latchStrips (events : StripNo → List NoticeEvent) (s : State) : State :=
  { s with reports.vectors := Vector.ofFn fun (src : Fin 65) =>
      if h : src.val < 32 then s.reports.vectors[src].latchAll (events ⟨src.val, h⟩) else s.reports.vectors[src] }

/-- Latch, for every anchor at once, the events listed for it by its number. -/
def State.latchAnchors (events : Nat → List NoticeEvent) (s : State) : State :=
  { s with reports.vectors := Vector.ofFn fun (src : Fin 65) =>
      if 32 ≤ src.val ∧ src.val < 64 then s.reports.vectors[src].latchAll (events (src.val - 32))
      else s.reports.vectors[src] }

/-! ### Node counters -/

/-- Change the node counters. -/
def State.count (f : Counters → Counters) (s : State) : State :=
  { s with message.counters := f s.message.counters }

/-- R83: one stray. -/
def Counters.addStray (c : Counters) : Counters := { c with stray := raise16 c.stray }

/-- R87, R88: one in-flight entry lost. -/
def Counters.addLost (c : Counters) : Counters := { c with lost := raise16 c.lost }

/-- R96: one message dropped. -/
def Counters.addDrop (c : Counters) : Counters := { c with outboundDrop := raise16 c.outboundDrop }

/-- R89: one member clash. -/
def Counters.addClash (c : Counters) : Counters := { c with clash := raise16 c.clash }

/-- R7: one missing arrival. -/
def Counters.addMissing (c : Counters) : Counters := { c with missing := raise16 c.missing }

/-- R6: one surplus arrival. -/
def Counters.addSurplus (c : Counters) : Counters := { c with surplus := raise16 c.surplus }

/-- R142: one stale delta. -/
def Counters.addStale (c : Counters) : Counters := { c with staleDelta := raise16 c.staleDelta }

/-- R123: one key not learned in one table. -/
def Counters.addOverflow (c : Counters) : Counters := { c with censusOverflow := raise16 c.censusOverflow }

/-! ### End conditions (R100, R147) -/

/-- COMPLETE. -/
def condComplete : Byte := 0x01#8
/-- STOPPED. -/
def condStopped : Byte := 0x02#8
/-- PARKED. -/
def condParked : Byte := 0x04#8
/-- DISCONTINUITY. -/
def condDiscontinuity : Byte := 0x08#8
/-- CLEARED. -/
def condCleared : Byte := 0x10#8
/-- NO TRANSFER. -/
def condNoTransfer : Byte := 0x20#8
/-- OVERRUN. -/
def condOverrun : Byte := 0x40#8
/-- The seven bits that name end conditions; bit 7 is unused and disregarded on receipt. -/
def condBits : Byte := 0x7F#8

/-! ### Record flags and pending marks (R100, R147, R152) -/

/-- FINAL. -/
def flagFinal : Byte := 0x01#8
/-- TOUCH MARK. -/
def flagTouch : Byte := 0x02#8
/-- RELEASE MARK. -/
def flagRelease : Byte := 0x04#8
/-- LATE START. -/
def flagLate : Byte := 0x08#8
/-- RESUME. -/
def flagResume : Byte := 0x10#8

end Sys2Proof.Machine
end

