-- ==== Sys2Proof/WellFormed.lean ====
section
/-! DEFINITION. Which commands are well formed: the operands whose type is wider than the pins. Everything else a command
carries is held to its range by its type. An ill-formed command is not refused: bytes that are no frame are discarded
(R3), and a channel without a sample delivers 0. -/

namespace Sys2Proof

/-- The frame marker of R100. -/
abbrev frameMarker : Byte := 0xC3#8

/-- R3, R100: a frame is 357 bytes that begin at a marker byte. -/
def isFrame (bytes : List Byte) : Bool :=
  bytes.length == 357 && bytes.head? == some frameMarker

/-- R53: each period the four ports deliver eight channels each. -/
def isSampleSet (samples : List Sample) : Bool :=
  samples.length == 32

/-- Well-formed commands: frames are frames, and a period's samples are 32. -/
def Instr.wellFormed : Instr → Bool
  | .joining frame => isFrame frame
  | .frameArrival frame => isFrame frame
  | .sampleProcessing samples => isSampleSet samples
  | .swapCompletion _ samples => isSampleSet samples
  | .powerReset | .powerResetRelease _ | .profileReadEnd _ | .lockGained | .lossOfLock | .quietWindowEnd
  | .frameEmission | .faultBegun _ | .runCompleted _ | .realignSwitch _ | .enterRunning _ | .insertion
  | .inflightTimeout | .historyAdvance | .outputProcessing | .referenceEvent _ _ _ | .keepalive _ _
  | .packingTurn _ | .drainEnd _ | .heldEndOffer _ | .agingEvent | .leadLapse _ | .censusClearing
  | .clearingComplete | .refreshWalkTurn | .meterEvent | .scannerVisit | .inputFramingLost _
  | .inputFramingGained _ | .stripSet _ _ | .place _ _ | .muteGroup _ _ _ | .cue _ _ | .cueFlush _ _
  | .touch _ _ _ | .fader _ _ _ | .solo _ _ _ | .soloOn _ _ | .soloRefresh _ _ | .soloOff _ _
  | .censusSweep _ | .groupClaim _ _ _ | .groupRelease _ _ _ | .groupDelta _ _ _ _ | .captureStart _ _
  | .captureStop _ _ | .captureSuspend _ _ | .captureResume _ _ | .captureClear _ _ | .outputSet _ _
  | .reportControl _ _ | .queryStrip _ _ _ | .queryCues _ _ _ | .queryCensus _ _ _ | .queryGroup _ _ _
  | .queryCapture _ _ _ | .queryAnchor _ _ _ | .queryCounters _ _ _ | .nodeReset _ | .wordClockEdge _ => true

end Sys2Proof
end

