-- ==== Sys2Proof/Machine/Operands.lean ====
section
/-! DEFINITION. The layouts of R100, R5 and R169: reading fields of bytes, reading each message's payload, laying out the
messages the node sends, frames in and out, the CRC-16, and the profile memory. -/

namespace Sys2Proof.Machine

open Sys2Proof

/-! ### Bytes and fields -/

/-- Byte `i` of a list of bytes, 0 beyond its end. -/
def byteAt (bytes : List Byte) (i : Nat) : Byte := bytes.getD i 0#8

/-- A two-byte field, most significant byte first (R100). -/
def field16 (bytes : List Byte) (i : Nat) : BitVec 16 := byteAt bytes i ++ byteAt bytes (i + 1)

/-- A four-byte field, most significant byte first. -/
def field32 (bytes : List Byte) (i : Nat) : BitVec 32 := field16 bytes i ++ field16 bytes (i + 2)

/-- A six-byte field, most significant byte first: a position. -/
def field48 (bytes : List Byte) (i : Nat) : BitVec 48 := field32 bytes i ++ field16 bytes (i + 4)

/-- R100: a yes/no field reads as no when it holds 0 and as yes otherwise. -/
def yes (b : Byte) : Bool := b != 0#8

/-- Bit `i` of a presence mask. -/
def maskBit (mask : Byte) (i : Nat) : Bool := mask.getLsbD i

/-- A strip field of 0 to 31 names a strip. -/
def stripOf (b : Byte) : Option StripNo := if h : b.toNat < 32 then some ⟨b.toNat, h⟩ else none

/-- A lane field of 0 to 63 names a lane. -/
def laneOf (b : Byte) : Option LaneNo := if h : b.toNat < 64 then some ⟨b.toNat, h⟩ else none

/-- A unit field of 0 to 3 names a unit. -/
def unitOf (b : Byte) : Option UnitNo := if h : b.toNat < 4 then some ⟨b.toNat, h⟩ else none

/-- A member field of 0 to 15 names a member. -/
def memberOf (b : Byte) : Option Member := if h : b.toNat < 16 then some ⟨b.toNat, h⟩ else none

/-- A link group field of 1 to 32 names a group. -/
def groupOf (b : Byte) : Option GroupNo :=
  if h : 1 ≤ b.toNat ∧ b.toNat ≤ 32 then some ⟨b.toNat - 1, by omega⟩ else none

/-- A member number as a byte. -/
def memberByte (m : Member) : Byte := BitVec.ofNat 8 m.val

/-- A strip number as a byte. -/
def stripByte (n : StripNo) : Byte := BitVec.ofNat 8 n.val

/-- A group as the byte that names it. -/
def groupByte (g : GroupNo) : Byte := BitVec.ofNat 8 (g.val + 1)

/-- The two bytes of a 16-bit field, most significant first. -/
def bytes16 (x : BitVec 16) : List Byte := [x.extractLsb' 8 8, x.extractLsb' 0 8]

/-- The three bytes of a 24-bit field, most significant first. -/
def bytes24 (x : BitVec 24) : List Byte := [x.extractLsb' 16 8, x.extractLsb' 8 8, x.extractLsb' 0 8]

/-- The four bytes of a 32-bit field, most significant first. -/
def bytes32 (x : BitVec 32) : List Byte :=
  [x.extractLsb' 24 8, x.extractLsb' 16 8, x.extractLsb' 8 8, x.extractLsb' 0 8]

/-- The six bytes of a 48-bit field, most significant first. -/
def bytes48 (x : BitVec 48) : List Byte :=
  [x.extractLsb' 40 8, x.extractLsb' 32 8, x.extractLsb' 24 8, x.extractLsb' 16 8, x.extractLsb' 8 8, x.extractLsb' 0 8]

/-- A yes/no field as emitted: 0 or 1. -/
def boolByte (b : Bool) : Byte := if b then 1#8 else 0#8

/-- An unsigned count as a 16-bit field. -/
def count16 (n : Nat) : List Byte := bytes16 (BitVec.ofNat 16 n)

/-- A signed level or change as a 16-bit field in two's complement. -/
def signed16 (x : Int) : List Byte := bytes16 (BitVec.ofInt 16 x)

/-- The first 28 of some bytes, unused payload bytes being 0 (R81). -/
def payloadOf (bytes : List Byte) : Vector Byte 28 := Vector.ofFn fun i => byteAt bytes i.val

/-! ### Kind codes (R100) -/

/-- QUERY. -/
def kindQuery : Byte := 0x1E#8
/-- STRIP SET. -/
def kindStripSet : Byte := 0x10#8
/-- PLACE. -/
def kindPlace : Byte := 0x11#8
/-- CUE. -/
def kindCue : Byte := 0x12#8
/-- CUE FLUSH. -/
def kindCueFlush : Byte := 0x13#8
/-- TOUCH. -/
def kindTouch : Byte := 0x14#8
/-- FADER. -/
def kindFader : Byte := 0x15#8
/-- SOLO. -/
def kindSolo : Byte := 0x16#8
/-- MUTE GROUP. -/
def kindMuteGroup : Byte := 0x17#8
/-- CAPTURE START. -/
def kindCaptureStart : Byte := 0x18#8
/-- CAPTURE STOP. -/
def kindCaptureStop : Byte := 0x19#8
/-- CAPTURE SUSPEND. -/
def kindCaptureSuspend : Byte := 0x1A#8
/-- CAPTURE RESUME. -/
def kindCaptureResume : Byte := 0x1B#8
/-- CAPTURE CLEAR. -/
def kindCaptureClear : Byte := 0x1C#8
/-- OUTPUT SET. -/
def kindOutputSet : Byte := 0x1D#8

/-- The kind code of a message the node sends. -/
def Body.kind : Body → Byte
  | .claim _ _ => 0x40#8
  | .release _ _ => 0x41#8
  | .delta _ _ _ => 0x42#8
  | .soloOn _ => 0x43#8
  | .soloRefresh _ => 0x44#8
  | .soloOff _ => 0x45#8
  | .reply _ _ _ _ _ => 0x60#8
  | .refusal _ _ _ => 0x61#8
  | .meter _ _ _ => 0x62#8
  | .notice _ _ _ => 0x63#8
  | .records _ _ _ => 0x64#8
  | .captureEnd _ _ => 0x65#8

/-- The refusal reason codes of R100. -/
def Reason.code : Reason → Byte
  | .malformed => 1#8
  | .busy => 2#8
  | .notReady => 3#8

/-! ### Payloads the node lays out (R100) -/

/-- One record of CAPTURE RECORDS. -/
def PackedRecord.bytes (r : PackedRecord) : List Byte := count16 r.offset ++ signed16 r.level ++ [r.flags]

/-- The end record's bytes in CAPTURE END, after the unit. -/
def EndRecord.bytes (e : EndRecord) : List Byte :=
  [e.conditions, boolByte e.lastPosition.isSome] ++ bytes48 (e.lastPosition.getD 0#48) ++ count16 e.recordsSent
    ++ count16 e.overruns

/-- Byte `k` of a REPLY part's share: the manual's open point, but that the bytes of a CENSUS key part's unused key places are 0
(R132). -/
def ReplyShare.byte (share : ReplyShare) (k : Nat) : Byte :=
  match share with
  | .censusKeys keys => if Config.keyPlace k < keys.length then Config.replyByte share k else 0#8
  | _ => Config.replyByte share k

/-- The payload of a message the node sends. The 24 bytes of a REPLY's share are the manual's open point. -/
def Body.bytes : Body → List Byte
  | .claim g n | .release g n => [groupByte g, stripByte n]
  | .delta g n change => [groupByte g, stripByte n] ++ signed16 change
  | .soloOn n | .soloRefresh n | .soloOff n => [stripByte n]
  | .reply item object part parts share =>
    [item, object, BitVec.ofNat 8 part, BitVec.ofNat 8 parts] ++ (List.range 24).map share.byte
  | .refusal kind object reason => [kind, object, reason.code]
  | .meter anchors block codes =>
    [boolByte anchors, BitVec.ofNat 8 block, BitVec.ofNat 8 codes.length] ++ codes.flatMap count16
  | .notice source events count => [BitVec.ofNat 8 source.val] ++ bytes24 events ++ [BitVec.ofNat 8 count]
  | .records unit base rs =>
    [BitVec.ofNat 8 unit.val, BitVec.ofNat 8 rs.length] ++ bytes48 base ++ rs.flatMap PackedRecord.bytes
  | .captureEnd unit record => [BitVec.ofNat 8 unit.val] ++ record.bytes

/-- R90: the head of the outbound queue as written into a slot: this node's member number as the source and hop count 0. -/
def OutMsg.message (member : Member) (m : OutMsg) : Message :=
  { kind := m.body.kind, source := memberByte member, dest := m.dest, hop := 0#8, payload := payloadOf m.body.bytes }

/-! ### Payloads the node reads (R100) -/

/-- A STRIP SET payload. -/
def readStripSet (p : List Byte) : StripSetFields :=
  { strip := byteAt p 0, mask := byteAt p 1, glide := field16 p 2, group := byteAt p 4, mode := byteAt p 5
    trim := field16 p 6, cut := byteAt p 8, mutes := field16 p 9, safe := byteAt p 11 }

/-- Tap `m` of a PLACE payload. -/
def readTap (p : List Byte) (m : Nat) : TapField := { lane := byteAt p (4 + 3 * m), coef := field16 p (5 + 3 * m) }

/-- A PLACE payload. -/
def readPlace (p : List Byte) : PlaceFields :=
  { strip := byteAt p 0, part := byteAt p 1, parts := byteAt p 2, count := byteAt p 3
    tap0 := readTap p 0, tap1 := readTap p 1, tap2 := readTap p 2, tap3 := readTap p 3 }

/-- A CUE payload. -/
def readCue (p : List Byte) : CueFields :=
  { strip := byteAt p 0, position := field48 p 1, level := field16 p 7, ramp := field16 p 9 }

/-- A CAPTURE START payload. -/
def readCaptureStart (p : List Byte) : CaptureStartFields :=
  { unit := byteAt p 0, strip := byteAt p 1, punchIn := field48 p 2, punchOut := field48 p 8, threshold := byteAt p 14
    noticeMask := byteAt p 15, recordMember := byteAt p 16 }

/-- An OUTPUT SET payload. -/
def readOutputSet (p : List Byte) : OutputSetFields :=
  { lane := byteAt p 0, mask := byteAt p 1, level := field16 p 2, mute := byteAt p 4 }

/-- A REPORT CONTROL payload. -/
def readReportControl (p : List Byte) : ReportControlFields :=
  { mask := byteAt p 0, meters := byteAt p 1, notices := byteAt p 2 }

/-! ### CRC-16 (R5) -/

/-- One bit of the shift: the generator x^16 + x^12 + x^5 + 1, most significant bit first. -/
def crcBit (reg : BitVec 16) : BitVec 16 :=
  bif reg.getLsbD 15 then (reg <<< 1) ^^^ 0x1021#16 else reg <<< 1

/-- One byte shifted in. -/
def crcByte (reg : BitVec 16) (b : Byte) : BitVec 16 :=
  crcBit (crcBit (crcBit (crcBit (crcBit (crcBit (crcBit (crcBit (reg ^^^ (b.setWidth 16 <<< 8)))))))))

/-- R5: the register starts at 0xFFFF and its final value is taken without inversion. -/
def crc16 (bytes : List Byte) : BitVec 16 := bytes.foldl crcByte 0xFFFF#16

/-! ### Frames (R4, R11, R100) -/

/-- R4: a frame is good when its emitter is a member number and its check code is right. -/
def goodFrame (bytes : List Byte) : Bool :=
  decide ((byteAt bytes 1).toNat < 16) && crc16 (bytes.take 355) == field16 bytes 355

/-- R11: a lane by its tag byte: 0 to 15 live, any other value ORPHAN. -/
def laneRead (value : BitVec 32) (tag : Byte) : Lane :=
  if h : tag.toNat < 16 then .live ⟨tag.toNat, h⟩ value.toInt else .orphan

/-- Lane `j` of a frame. -/
def frameLane (bytes : List Byte) (j : Nat) : Lane := laneRead (field32 bytes (3 + 5 * j)) (byteAt bytes (7 + 5 * j))

/-- All 64 lanes of a frame. -/
def frameLanes (bytes : List Byte) : Vector Lane 64 := Vector.ofFn fun j => frameLane bytes j.val

/-- The message of 32 slot bytes: none where the kind byte is 0, whatever the other bytes hold (R81). -/
def slotMessage (slot : List Byte) : Option Message :=
  if byteAt slot 0 = 0#8 then none
  else some { kind := byteAt slot 0, source := byteAt slot 1, dest := byteAt slot 2, hop := byteAt slot 3
              payload := payloadOf (slot.drop 4) }

/-- The message slot of a frame. -/
def frameSlot (bytes : List Byte) : Option Message := slotMessage ((bytes.drop 323).take 32)

/-- R13: an ORPHAN lane is emitted with value 0 and tag 0x80. -/
def Lane.bytes : Lane → List Byte
  | .live age value => bytes32 (BitVec.ofInt 32 value) ++ [BitVec.ofNat 8 age.val]
  | .orphan => [0#8, 0#8, 0#8, 0#8, 0x80#8]

/-- R81: a message in its slot, and an empty slot as 32 bytes of 0. -/
def slotBytes : Option Message → List Byte
  | some m => [m.kind, m.source, m.dest, m.hop] ++ m.payload.toList
  | none => List.replicate 32 0#8

/-- The 355 bytes of a frame before its check code. -/
def Frame.content (f : Frame) : List Byte :=
  [frameMarker, memberByte f.emitter, boolByte f.regenerated] ++ f.lanes.toList.flatMap Lane.bytes ++ slotBytes f.slot

/-- R2, R100: the 357 bytes on the loop transmit link. -/
def Frame.bytes (f : Frame) : List Byte := f.content ++ bytes16 (crc16 f.content)

/-- The frame the node has emitted in this period, as bytes on the loop transmit link; empty where it has emitted none. -/
def State.transmitted (s : State) : List Byte :=
  match s.port.transmit with
  | some f => f.bytes
  | none => []

/-! ### The profile memory (R169) -/

/-- Byte `i` of the profile as a number clamped into a range. -/
def clampNat (lo hi n : Nat) : Nat := max lo (min hi n)

/-- Whether the memory's content holds a profile: complete, with a good check code over bytes 0 to 14 + 4n and version 1. -/
def goodProfile (bytes : List Byte) : Bool :=
  let n := (byteAt bytes 14).toNat
  decide (17 + 4 * n ≤ bytes.length) && crc16 (bytes.take (15 + 4 * n)) == field16 bytes (15 + 4 * n)
    && byteAt bytes 0 == 1#8

/-- The profile's fields, each clamped silently into its range (R169). -/
def readProfile (bytes : List Byte) : Profile :=
  { reportMember := ⟨min 15 (byteAt bytes 1).toNat, by omega⟩
    range1 := { base := byteAt bytes 2, mask := byteAt bytes 3, enabled := yes (byteAt bytes 4) }
    range2 := { base := byteAt bytes 5, mask := byteAt bytes 6, enabled := yes (byteAt bytes 7) }
    aging := 48000 * clampNat 1 8 (byteAt bytes 8).toNat
    latency := clampNat 34 240 (byteAt bytes 9).toNat
    meter := clampNat 480 48000 (field16 bytes 10).toNat
    glide := clampNat 48 48000 (field16 bytes 12).toNat }

/-- Anchor entry `e` as stored. -/
def readEntry (bytes : List Byte) (e : Nat) : AnchorEntry :=
  { lane := (byteAt bytes (15 + 4 * e)).toNat, slot := (byteAt bytes (16 + 4 * e)).toNat
    level := (field16 bytes (17 + 4 * e)).toInt }

/-- The anchor entries taken: the first 32 of those stored (R169). -/
def readEntries (bytes : List Byte) : List AnchorEntry :=
  (List.range (min 32 (byteAt bytes 14).toNat)).map (readEntry bytes)

end Sys2Proof.Machine
end

