-- ==== Sys2Proof/Machine/Ops.lean ====
section
/-! DEFINITION. The operations that more than one block uses: access to the strip records and recomputing their targets,
the outbound queue (R92 to R96), refusals (R97), and when a message is acted on (R85). -/

namespace Sys2Proof.Machine

open Sys2Proof

/-! ### Start state -/

/-- Section 11.1: periods pass in PASSING and in JOINED. -/
def State.periodsPass (s : State) : Bool := s.clock.start == .passing || s.clock.start == .joined

/-- The node is JOINED. -/
def State.joined (s : State) : Bool := s.clock.start == .joined

/-- R85: an accepted message is acted on when the node is JOINED; in PASSING it is not, and no refusal is sent. A message
that carries this node's own member number as its source is never accepted (R82). -/
def State.whenActing (source : Member) (act : State → State) (s : State) : State :=
  if s.joined && source != s.clock.member then act s else s

/-! ### Strip records -/

/-- The record of strip `n`. -/
def State.strip (s : State) (n : StripNo) : Strip := s.engine.strips[n]

/-- Replace the record of strip `n`. -/
def State.setStrip (n : StripNo) (st : Strip) (s : State) : State :=
  { s with engine.strips := s.engine.strips.set n st }

/-- Change every strip record by its number. -/
def State.mapStrips (f : StripNo → Strip → Strip) (s : State) : State :=
  { s with engine.strips := Vector.ofFn fun n => f n s.engine.strips[n] }

/-- Strip `st` with its target recomputed against the node's solo active and active mute groups (R45). -/
def State.retargeted (s : State) (length : Nat) (st : Strip) : Strip :=
  st.retarget s.census.soloActive s.engine.activeMutes length

/-- Replace the record of strip `n` and recompute its target with the given ramp length (R45). -/
def State.setRetargeted (n : StripNo) (length : Nat) (st : Strip) (s : State) : State :=
  s.setStrip n (s.retargeted length st)

/-- Recompute the target of every strip, each with the given ramp length (R119). -/
def State.retargetAll (length : Nat) (s : State) : State := s.mapStrips fun _ st => s.retargeted length st

/-- The strips in strip order. -/
def allStrips : List StripNo := List.finRange 32

/-! ### The outbound queue -/

/-- R92: the queue holds up to 32 messages. -/
def queueLimit : Nat := 32

/-- R92: the free entries of the queue. -/
def State.freeEntries (s : State) : Nat := queueLimit - s.message.outbound.length

/-- Change the first element for which `p` holds, in its place. -/
def modifyFirst {α : Type} (p : α → Bool) (f : α → α) : List α → List α
  | [] => []
  | a :: as => if p a then f a :: as else a :: modifyFirst p f as

/-- R94: whether a queued message is a solo message for strip `n` of this node. -/
def OutMsg.isSolo (n : StripNo) (m : OutMsg) : Bool :=
  match m.body with
  | .soloOn k | .soloRefresh k | .soloOff k => k == n
  | _ => false

/-- R95: whether a queued message is a claim or release for the group and lead strip. -/
def OutMsg.isLead (g : GroupNo) (n : StripNo) (m : OutMsg) : Bool :=
  match m.body with
  | .claim h k | .release h k => h == g && k == n
  | _ => false

/-- R93: whether a queued message is a delta of the group and lead strip. -/
def OutMsg.isDelta (g : GroupNo) (n : StripNo) (m : OutMsg) : Bool :=
  match m.body with
  | .delta h k _ => h == g && k == n
  | _ => false

/-- R93: the change is added into a queued delta, clamped into −1560…+1560. -/
def OutMsg.addChange (change : Int) (m : OutMsg) : OutMsg :=
  match m.body with
  | .delta g n c => { m with body := .delta g n (clamp (-1560) 1560 (c + change)) }
  | _ => m

/-- R93, R94, R95: the queue after an offered message that joins, replaces or is covered by a like message already queued;
`none` where it must join the tail. -/
def coalesce (m : OutMsg) (q : List OutMsg) : Option (List OutMsg) :=
  match m.body with
  | .delta g n change =>
    if q.any (OutMsg.isDelta g n) then some (modifyFirst (OutMsg.isDelta g n) (OutMsg.addChange change) q) else none
  | .soloOn n | .soloOff n =>
    if q.any (OutMsg.isSolo n) then some (modifyFirst (OutMsg.isSolo n) (fun _ => m) q) else none
  | .soloRefresh n => if q.any (OutMsg.isSolo n) then some q else none
  | .claim g n | .release g n =>
    if q.any (OutMsg.isLead g n) then some (modifyFirst (OutMsg.isLead g n) (fun _ => m) q) else none
  | _ => none

/-- R92 to R96: a message offered to the outbound queue is coalesced, joins the tail, or is dropped, counted and latched. -/
def State.offer (m : OutMsg) (s : State) : State :=
  match coalesce m s.message.outbound with
  | some q => { s with message.outbound := q }
  | none =>
    if s.message.outbound.length < queueLimit then
      { s with message.outbound := s.message.outbound ++ [m] }
    else (s.count Counters.addDrop).latchNode .outboundDrop

/-- The broadcast destination of R81. -/
def broadcast : Byte := 255#8

/-- An announcement of this node, to every member. -/
def State.announce (b : Body) (s : State) : State := s.offer { dest := broadcast, body := b }

/-- R97: one REFUSAL to the command's source. -/
def State.refuse (source : Member) (kind object : Byte) (reason : Reason) (s : State) : State :=
  s.offer { dest := memberByte source, body := .refusal kind object reason }

end Sys2Proof.Machine
end

