-- ==== Sys2Proof/Machine/Capture.lean ====
section
/-! DEFINITION. The Capture Units (chapter 9): starting, taking records, packing, endings, draining and the end record, and
what the transport and the strips' edges do to a unit. -/

namespace Sys2Proof.Machine

open Sys2Proof

/-- Capture unit `u`. -/
def State.captureUnit (s : State) (u : UnitNo) : CaptureUnit := s.units[u]

/-- Replace capture unit `u`. -/
def State.setUnit (u : UnitNo) (c : CaptureUnit) (s : State) : State := { s with units := s.units.set u c }

/-- R101, R151: the effective fader of the strip a unit is bound to, read when the unit takes the event. -/
def State.boundLevel (s : State) (c : CaptureUnit) : Int :=
  match c.bound with
  | some n => (s.strip n).effective
  | none => 0

/-- R153: the record buffer holds up to 16 records. -/
def bufferLimit : Nat := 16

/-- R151 and R153: a record is formed: it carries the pending marks and the given flags, and it goes to the buffer, or is
dropped, counted and OVERRUN gathered. Level, count and marks are updated either way. -/
def CaptureUnit.formRecord (q : Position) (level : Int) (flags : Byte) (period : Nat) (c : CaptureUnit) : CaptureUnit :=
  let formed := { c with lastLevel := some level, keepalive := 0, marks := 0#8, lastPosition := some q }
  if c.buffer.length < bufferLimit then
    { formed with buffer := c.buffer ++ [{ position := q, level, flags := c.marks ||| flags, formed := period }] }
  else
    { formed with overruns := raise16 c.overruns, conditions := c.conditions ||| condOverrun }

/-- R148: the binding of unit `u` is released on both sides. -/
def State.releaseBinding (u : UnitNo) (s : State) : State :=
  let free := s.setUnit u { s.captureUnit u with bound := none }
  match (s.captureUnit u).bound with
  | some n => free.setStrip n { s.strip n with binding := none }
  | none => free

/-- R155, R156: an ending with a FINAL record at position `q`: the record is formed, the condition gathered, the binding
released, and the unit enters DRAINING. -/
def State.finish (u : UnitNo) (q : Position) (flags condition : Byte) (s : State) : State :=
  let c := s.captureUnit u
  let c := c.formRecord q (s.boundLevel c) (flags ||| flagFinal) s.clock.period
  (s.setUnit u { c with conditions := c.conditions ||| condition, state := .draining }).releaseBinding u

/-- R151: whether a sampling of position `q`, its keepalive count already raised, calls for a record. -/
def CaptureUnit.recordDue (c : CaptureUnit) (q : Position) (level : Int) : Bool :=
  (match c.lastLevel with
   | none => true
   | some l => level != l && decide (c.settings.threshold ≤ (level - l).natAbs))
  || c.marks != 0#8 || decide (4800 ≤ c.keepalive) || decide (c.settings.punchOut ≤ q)

/-- R150: the first sampling of a capture adds LATE START when its position is above punch-in. -/
def CaptureUnit.lateFlag (c : CaptureUnit) (q : Position) : Byte :=
  if c.lastLevel.isNone ∧ c.settings.punchIn < q then flagLate else 0#8

/-- R151: one sampling of position `q` by a unit in WRITING. At or above punch-out the record is the FINAL one (R155). -/
def State.sample (u : UnitNo) (q : Position) (s : State) : State :=
  let c := { s.captureUnit u with keepalive := holdAt 4800 ((s.captureUnit u).keepalive + 1) }
  let late := c.lateFlag q
  if c.settings.punchOut ≤ q then (s.setUnit u c).finish u q late condComplete
  else if c.recordDue q (s.boundLevel c) then s.setUnit u (c.formRecord q (s.boundLevel c) late s.clock.period)
  else s.setUnit u c

/-- R150: an ARMED unit enters WRITING at position `q` and takes its first record there. -/
def State.enterWriting (u : UnitNo) (q : Position) (s : State) : State :=
  (s.setUnit u { s.captureUnit u with state := .writing }).sample u q

/-- R150, R151, R155: what a rolling position event that is not a discontinuity does to one unit. -/
def State.unitPosition (q : Position) (s : State) (u : UnitNo) : State :=
  match (s.captureUnit u).state with
  | .armed => if (s.captureUnit u).settings.punchIn ≤ q then s.enterWriting u q else s
  | .writing => s.sample u q
  | .suspended => if (s.captureUnit u).settings.punchOut ≤ q then s.finish u q 0#8 condComplete else s
  | .idle | .draining | .ended => s

/-- R155: a park or a discontinuity ends the capture of one unit at position `q`, the last one taken before it. -/
def State.unitEnd (q : Position) (condition : Byte) (s : State) (u : UnitNo) : State :=
  match (s.captureUnit u).state with
  | .writing | .suspended => s.finish u q 0#8 condition
  | .idle | .armed | .draining | .ended => s

/-- The units in order. -/
def allUnits : List UnitNo := List.finRange 4

/-- A rolling position event that is not a discontinuity reaches the four units. -/
def State.unitsPosition (q : Position) (s : State) : State := allUnits.foldl (State.unitPosition q) s

/-- A park or a discontinuity reaches the four units. -/
def State.unitsEnd (q : Position) (condition : Byte) (s : State) : State := allUnits.foldl (State.unitEnd q condition) s

/-- R152: an edge on a bound strip adds its mark while the unit is WRITING and is disregarded otherwise. -/
def State.captureEdge (n : StripNo) (mark : Byte) (s : State) : State :=
  match (s.strip n).binding with
  | some u =>
    if (s.captureUnit u).state = .writing then
      s.setUnit u { s.captureUnit u with marks := (s.captureUnit u).marks ||| mark }
    else s
  | none => s

/-! ### Packing and draining (R154, R159) -/

/-- R159: the end record. -/
def CaptureUnit.ending (c : CaptureUnit) : EndRecord :=
  { conditions := c.conditions, lastPosition := c.lastPosition, recordsSent := c.recordsSent, overruns := c.overruns }

/-- CAPTURE END for a unit, to its record member (R159). -/
def CaptureUnit.endMessage (c : CaptureUnit) (u : UnitNo) (e : EndRecord) : OutMsg :=
  { dest := memberByte c.settings.recordMember, body := .captureEnd u e }

/-- R159: the end of DRAINING: the end record is built and judged against the notice mask. -/
def State.endDrain (u : UnitNo) (s : State) : State :=
  let c := s.captureUnit u
  let c := { c with endRecord := some c.ending }
  if c.conditions &&& c.settings.noticeMask = 0#8 then s.setUnit u { c with state := .idle }
  else if s.reports.inhibited then s.setUnit u { c with state := .ended }
  else if 2 ≤ s.freeEntries then (s.setUnit u { c with state := .idle }).offer (c.endMessage u c.ending)
  else s.setUnit u { c with state := .draining }

/-- R154: whether a unit packs a message at its turn. -/
def State.packDue (s : State) (c : CaptureUnit) : Bool :=
  decide (2 ≤ s.freeEntries) &&
  match c.buffer with
  | [] => false
  | r :: _ => decide (4 ≤ c.buffer.length) || decide (r.formed + 480 ≤ s.clock.period) || c.state == .draining

/-- R154: a record's position less the block base. Positions are 48-bit counts, and the position after 2^48 − 1 is 0. -/
def recordOffset (base : Position) (r : Record) : Nat := (r.position - base).toNat

/-- R154: the records one message takes from the head of the buffer. -/
def packGroup (buffer : List Record) : List Record :=
  match buffer with
  | [] => []
  | r :: _ => (buffer.take 4).takeWhile fun x => recordOffset r.position x ≤ 65535

/-- R154: CAPTURE RECORDS over the given records. -/
def CaptureUnit.recordsMessage (c : CaptureUnit) (u : UnitNo) (group : List Record) : OutMsg :=
  let base := match group with
    | [] => 0#48
    | r :: _ => r.position
  { dest := memberByte c.settings.recordMember
    body := .records u base (group.map fun r => { offset := recordOffset base r, level := r.level, flags := r.flags }) }

/-- R154: one message is packed. -/
def State.pack (u : UnitNo) (s : State) : State :=
  let c := s.captureUnit u
  let group := packGroup c.buffer
  (s.setUnit u { c with buffer := c.buffer.drop group.length, recordsSent := holdAt 65535 (c.recordsSent + group.length) }).offer
    (c.recordsMessage u group)

/-- R159: an ENDED unit's held CAPTURE END at a packing turn. -/
def State.offerHeldEnd (u : UnitNo) (s : State) : State :=
  let c := s.captureUnit u
  if !s.reports.inhibited && decide (2 ≤ s.freeEntries) then
    match c.endRecord with
    | some e => (s.setUnit u { c with state := .idle }).offer (c.endMessage u e)
    | none => s
  else s

/-- Whether a unit is DRAINING with an empty buffer (R159). -/
def CaptureUnit.drained (c : CaptureUnit) : Bool := c.state == .draining && c.buffer.isEmpty

/-- R154, R159: the work of one unit's packing turn. -/
def State.turnWork (u : UnitNo) (s : State) : State :=
  if (s.captureUnit u).state = .ended then s.offerHeldEnd u
  else
    let packed := if s.packDue (s.captureUnit u) then s.pack u else s
    if (packed.captureUnit u).drained then packed.endDrain u else packed

/-- Whether unit `u` still has its packing turn in this period. -/
def State.turnOpen (u : UnitNo) (s : State) : Bool := s.periodsPass && !s.clock.taken.turns[u]

/-- R154: one packing turn in each period that passes, whatever the unit's state. -/
def State.packingTurn (u : UnitNo) (s : State) : State :=
  { s with clock.taken.turns := s.clock.taken.turns.set u true }.turnWork u

/-- PACKING_TURN. -/
def execPackingTurn (u : UnitNo) (s : State) : Host.Outcome State Fault Refusal :=
  .next (if s.turnOpen u then s.packingTurn u else s)

/-- R159: whether unit `u`'s turn takes the end of DRAINING: its buffer is empty, or this turn's message takes the rest. -/
def State.drainEndDue (u : UnitNo) (s : State) : Bool :=
  s.turnOpen u && (s.captureUnit u).state == .draining &&
    ((s.captureUnit u).buffer.isEmpty ||
      (decide (2 ≤ s.freeEntries) && (packGroup (s.captureUnit u).buffer).length == (s.captureUnit u).buffer.length))

/-- DRAIN_END: the packing turn of a DRAINING unit at which the end of DRAINING is taken. -/
def execDrainEnd (u : UnitNo) (s : State) : Host.Outcome State Fault Refusal :=
  .next (if s.drainEndDue u then s.packingTurn u else s)

/-- R159: whether unit `u`'s turn offers its held CAPTURE END. -/
def State.heldEndDue (u : UnitNo) (s : State) : Bool :=
  s.turnOpen u && (s.captureUnit u).state == .ended && !s.reports.inhibited && decide (2 ≤ s.freeEntries)

/-- HELD_END_OFFER: the packing turn of an ENDED unit at which its held CAPTURE END is offered. -/
def execHeldEndOffer (u : UnitNo) (s : State) : Host.Outcome State Fault Refusal :=
  .next (if s.heldEndDue u then s.packingTurn u else s)

/-! ### Starting a capture (R149, R150) -/

/-- The settings a CAPTURE START carries, once its strip and record member name ones. -/
def captureSettings (f : CaptureStartFields) (n : StripNo) (m : Member) : CaptureSettings :=
  { strip := n, punchIn := f.punchIn, punchOut := f.punchOut, threshold := f.threshold.toNat
    noticeMask := f.noticeMask &&& condBits, recordMember := m }

/-- R149: a unit as cases 4 and 5 prepare it. -/
def CaptureUnit.prepared (c : CaptureUnit) (settings : CaptureSettings) : CaptureUnit :=
  { c with settings, endRecord := none, conditions := 0#8, recordsSent := 0, overruns := 0, marks := 0#8
           lastLevel := none, lastPosition := none, keepalive := 0 }

/-- R149, case 4: the capture ends at once without binding. -/
def State.startEnded (u : UnitNo) (settings : CaptureSettings) (s : State) : State :=
  (s.setUnit u { (s.captureUnit u).prepared settings with conditions := condNoTransfer, state := .draining }).endDrain u

/-- R149, case 5: the unit is armed and bound, and R150 is applied at once against the current position. -/
def State.startArmed (u : UnitNo) (settings : CaptureSettings) (s : State) : State :=
  let armed := (s.setUnit u { (s.captureUnit u).prepared settings with state := .armed, bound := some settings.strip }).setStrip
    settings.strip { s.strip settings.strip with binding := some u }
  if s.clock.rolling && decide (settings.punchIn ≤ s.clock.position) then armed.enterWriting u s.clock.position
  else armed

/-- R149: CAPTURE START by the first case that applies. -/
def State.actCaptureStart (source : Member) (f : CaptureStartFields) (s : State) : State :=
  match unitOf f.unit, stripOf f.strip, memberOf f.recordMember with
  | some u, some n, some m =>
    if (s.captureUnit u).state ≠ .idle then s.refuse source kindCaptureStart f.unit .busy
    else if (s.strip n).binding.isSome then s.refuse source kindCaptureStart f.unit .notReady
    else if f.punchOut ≤ f.punchIn then s.startEnded u (captureSettings f n m)
    else s.startArmed u (captureSettings f n m)
  | _, _, _ => s.refuse source kindCaptureStart f.unit .malformed

/-- CAPTURE_START. -/
def execCaptureStart (source : Member) (f : CaptureStartFields) (s : State) : Host.Outcome State Fault Refusal :=
  .next (s.whenActing source (State.actCaptureStart source f))

/-! ### The other capture commands (R156 to R158) -/

/-- A command that carries a unit field alone: a unit above 3 is refused with MALFORMED. -/
def State.unitCommand (source : Member) (kind unit : Byte) (act : UnitNo → State → State) (s : State) : State :=
  match unitOf unit with
  | some u => act u s
  | none => s.refuse source kind unit .malformed

/-- R156, R158: an ending before any record: conditions gathered, buffer and marks discarded, binding released, DRAINING
with an empty buffer, and the end of DRAINING taken within the arrival. -/
def State.endEmpty (u : UnitNo) (conditions : Byte) (s : State) : State :=
  ((s.setUnit u { s.captureUnit u with
      conditions := (s.captureUnit u).conditions ||| conditions, buffer := [], marks := 0#8
      state := .draining }).releaseBinding u).endDrain u

/-- R156: CAPTURE STOP by the unit's state. -/
def State.stopUnit (source : Member) (unit : Byte) (u : UnitNo) (s : State) : State :=
  match (s.captureUnit u).state with
  | .writing | .suspended => s.finish u s.clock.position 0#8 condStopped
  | .armed => s.endEmpty u (condStopped ||| condNoTransfer)
  | .idle | .draining | .ended => s.refuse source kindCaptureStop unit .notReady

/-- R156: CAPTURE STOP. -/
def State.actCaptureStop (source : Member) (unit : Byte) (s : State) : State :=
  s.unitCommand source kindCaptureStop unit (State.stopUnit source unit)

/-- CAPTURE_STOP. -/
def execCaptureStop (source : Member) (unit : Byte) (s : State) : Host.Outcome State Fault Refusal :=
  .next (s.whenActing source (State.actCaptureStop source unit))

/-- R157: CAPTURE SUSPEND by the unit's state. -/
def State.suspendUnit (source : Member) (unit : Byte) (u : UnitNo) (s : State) : State :=
  if (s.captureUnit u).state = .writing then
    s.setUnit u { s.captureUnit u with state := .suspended, marks := 0#8 }
  else s.refuse source kindCaptureSuspend unit .notReady

/-- R157: CAPTURE SUSPEND. -/
def State.actCaptureSuspend (source : Member) (unit : Byte) (s : State) : State :=
  s.unitCommand source kindCaptureSuspend unit (State.suspendUnit source unit)

/-- CAPTURE_SUSPEND. -/
def execCaptureSuspend (source : Member) (unit : Byte) (s : State) : Host.Outcome State Fault Refusal :=
  .next (s.whenActing source (State.actCaptureSuspend source unit))

/-- R157: CAPTURE RESUME by the unit's state. -/
def State.resumeUnit (source : Member) (unit : Byte) (u : UnitNo) (s : State) : State :=
  if (s.captureUnit u).state = .suspended then
    s.setUnit u { s.captureUnit u with state := .writing, marks := (s.captureUnit u).marks ||| flagResume }
  else s.refuse source kindCaptureResume unit .notReady

/-- R157: CAPTURE RESUME. -/
def State.actCaptureResume (source : Member) (unit : Byte) (s : State) : State :=
  s.unitCommand source kindCaptureResume unit (State.resumeUnit source unit)

/-- CAPTURE_RESUME. -/
def execCaptureResume (source : Member) (unit : Byte) (s : State) : Host.Outcome State Fault Refusal :=
  .next (s.whenActing source (State.actCaptureResume source unit))

/-- R158, SUSPENDED: buffer discarded, binding released, CLEARED gathered, the end record built, no CAPTURE END, IDLE. -/
def State.clearSuspended (u : UnitNo) (s : State) : State :=
  let c := { s.captureUnit u with
    conditions := (s.captureUnit u).conditions ||| condCleared, buffer := [], marks := 0#8, state := .idle }
  (s.setUnit u { c with endRecord := some c.ending }).releaseBinding u

/-- R158, ENDED: the held CAPTURE END is discarded unsent and CLEARED is added to the end record. -/
def State.clearEnded (u : UnitNo) (s : State) : State :=
  s.setUnit u { s.captureUnit u with
    state := .idle
    endRecord := (s.captureUnit u).endRecord.map fun e => { e with conditions := e.conditions ||| condCleared } }

/-- R158: CAPTURE CLEAR by the unit's state. -/
def State.clearUnit (u : UnitNo) (s : State) : State :=
  match (s.captureUnit u).state with
  | .armed => s.endEmpty u (condCleared ||| condNoTransfer)
  | .writing | .draining => s.endEmpty u condCleared
  | .suspended => s.clearSuspended u
  | .ended => s.clearEnded u
  | .idle => s

/-- R158: CAPTURE CLEAR. -/
def State.actCaptureClear (source : Member) (unit : Byte) (s : State) : State :=
  s.unitCommand source kindCaptureClear unit State.clearUnit

/-- CAPTURE_CLEAR. -/
def execCaptureClear (source : Member) (unit : Byte) (s : State) : Host.Outcome State Fault Refusal :=
  .next (s.whenActing source (State.actCaptureClear source unit))

end Sys2Proof.Machine
end

