-- ==== Sys2Proof/Machine/Groups.lean ====
section
/-! DEFINITION. The Group Table (chapter 8): hand-on, claiming and releasing local leads, the link offset (R33), moves, the
announcements of other members, and aging. -/

namespace Sys2Proof.Machine

open Sys2Proof

/-- The entry of group `g`. -/
def State.group (s : State) (g : GroupNo) : GroupEntry := s.groups[g]

/-- Replace the entry of group `g`. -/
def State.setGroup (g : GroupNo) (e : GroupEntry) (s : State) : State := { s with groups := s.groups.set g e }

/-- The key of a strip of this node. -/
def State.ownKey (s : State) (n : StripNo) : Key := { member := s.clock.member, strip := n }

/-- R134: a key's place in the order of keys, by member number and then by strip number. -/
def Key.rank (k : Key) : Nat := 32 * k.member.val + k.strip.val

/-- R134, field `local`: the lead names a strip of this node. -/
def State.leadIsLocal (s : State) (g : GroupNo) : Bool :=
  match (s.group g).lead with
  | some k => k.member == s.clock.member
  | none => false

/-- Whether strip `n` of this node leads group `g`. -/
def State.leads (s : State) (g : GroupNo) (n : StripNo) : Bool := (s.group g).lead == some (s.ownKey n)

/-- R135: a local member of group `g`. -/
def State.isMember (s : State) (g : GroupNo) (n : StripNo) : Bool := (s.strip n).linkGroup == some g

/-- R135: a local waiter: a local member that is touched, in a mode other than READ, and not the lead. -/
def State.isWaiter (s : State) (g : GroupNo) (n : StripNo) : Bool :=
  s.isMember g n && (s.strip n).touched && (s.strip n).mode != .read && !s.leads g n

/-- R135: the local waiter with the lowest strip number. -/
def State.firstWaiter (s : State) (g : GroupNo) : Option StripNo := allStrips.find? (s.isWaiter g)

/-- Strip `n` becomes the lead of group `g` and the claim is offered (R135, R136). -/
def State.takeLead (g : GroupNo) (n : StripNo) (s : State) : State :=
  (s.setGroup g { s.group g with lead := some (s.ownKey n), silent := 0 }).announce (.claim g n)

/-- R135: the hand-on of a group whose lead an event has cleared. -/
def State.handOn (g : GroupNo) (s : State) : State :=
  match s.firstWaiter g with
  | some n => s.takeLead g n
  | none => s

/-- The entry of a group whose lead is cleared: lead none, silent count 0 (R138, R141, R143). -/
def GroupEntry.cleared (e : GroupEntry) : GroupEntry := { e with lead := none, silent := 0 }

/-- R138: release of a local lead: the entry and its mark are cleared, the release offered, the hand-on taken. -/
def State.releaseLead (g : GroupNo) (n : StripNo) (s : State) : State :=
  ((s.setGroup g { (s.group g).cleared with mark := false }).announce (.release g n)).handOn g

/-- R138: release whatever lead strip `n` holds in the group `g` it belongs to or belonged to. -/
def State.releaseIfLead (group : Option GroupNo) (n : StripNo) (s : State) : State :=
  match group with
  | some g => if s.leads g n then s.releaseLead g n else s
  | none => s

/-- R136: a touch edge handed to the Group Table. -/
def State.groupTouch (n : StripNo) (s : State) : State :=
  match (s.strip n).linkGroup with
  | some g => if (s.group g).lead.isNone then s.takeLead g n else s
  | none => s

/-! ### The link offset (R33) -/

/-- R33: the offset after a change, held within −400…+400. -/
def offsetAfter (offset change : Int) : Int := clamp (-400) 400 (offset + change)

/-- R33: whether a change would take the offset out of its range. -/
def offsetClamps (offset change : Int) : Bool := offset + change < -400 || 400 < offset + change

/-- R33: one strip takes a delta; its target is recomputed with the link delta cause if its offset changes. -/
def State.withDelta (s : State) (change : Int) (st : Strip) : Strip :=
  if offsetAfter st.offset change = st.offset then st
  else s.retargeted moveRamp { st with offset := offsetAfter st.offset change }

/-- R33, R139, R142: a delta reaches every local member of the group except the lead. LINK CLAMP is latched for each member
whose sum lies outside the range. -/
def State.applyDelta (g : GroupNo) (change : Int) (s : State) : State :=
  (s.mapStrips fun n st => if s.isMember g n && !s.leads g n then s.withDelta change st else st).latchStrips fun n =>
    if s.isMember g n && !s.leads g n && offsetClamps (s.strip n).offset change then [.linkClamp] else []

/-- R139: a leading strip's move reaches its local members and the loop. -/
def State.leadMove (g : GroupNo) (n : StripNo) (change : Int) (s : State) : State :=
  (s.applyDelta g change).announce (.delta g n change)

/-! ### Announcements from other members (R140 to R142) -/

/-- R140: a GROUP CLAIM for key `k`. -/
def State.takeClaim (g : GroupNo) (k : Key) (s : State) : State :=
  match (s.group g).lead with
  | none => s.setGroup g { s.group g with lead := some k, silent := 0 }
  | some l =>
    if l = k then s.setGroup g { s.group g with silent := 0 }
    else if k.rank < l.rank then
      s.setGroup g { lead := some k, silent := 0, mark := (s.group g).mark && !s.leadIsLocal g }
    else s

/-- R141: a GROUP RELEASE for key `k`. -/
def State.takeRelease (g : GroupNo) (k : Key) (s : State) : State :=
  if (s.group g).lead = some k then (s.setGroup g (s.group g).cleared).handOn g else s

/-- R142: a GROUP DELTA from key `k`. -/
def State.takeDelta (g : GroupNo) (k : Key) (change : Int) (s : State) : State :=
  if (s.group g).lead = some k then
    (s.applyDelta g change).setGroup g { s.group g with silent := 0 }
  else (s.count Counters.addStale).latchNode .staleDelta

/-- Section 8.4: an announcement whose group is 0 or 33 to 255, or whose strip is 32 to 255, is discarded. -/
def State.announced (source : Member) (group strip : Byte) (act : GroupNo → Key → State → State) (s : State) : State :=
  match groupOf group, stripOf strip with
  | some g, some n => act g { member := source, strip := n } s
  | _, _ => s

/-! ### Aging (R143) -/

/-- R143: the lead of group `g` lapses: it is cleared, LEAD LAPSED latched, and the hand-on taken. -/
def State.lapse (g : GroupNo) (s : State) : State :=
  ((s.setGroup g (s.group g).cleared).latchNode .leadLapsed).handOn g

/-- R143: one entry at an aging event. -/
def State.ageGroup (s : State) (g : GroupNo) : State :=
  match (s.group g).lead with
  | none => s
  | some _ =>
    if s.leadIsLocal g then s.setGroup g { s.group g with mark := true }
    else if 2 ≤ (s.group g).silent + 1 then s.lapse g
    else s.setGroup g { s.group g with silent := (s.group g).silent + 1 }

/-- R143: the 32 entries in group order. -/
def State.ageGroups (s : State) : State := (List.finRange 32).foldl State.ageGroup s

/-- R144: a group's mark handed over by the refresh walk, already cleared. -/
def State.claimRefresh (g : GroupNo) (s : State) : State :=
  match (s.group g).lead with
  | some k => if k.member = s.clock.member then s.announce (.claim g k.strip) else s
  | none => s

/-! ### The commands -/

/-- GROUP CLAIM from another member (R140). -/
def State.actGroupClaim (source : Member) (group strip : Byte) (s : State) : State :=
  s.announced source group strip State.takeClaim

/-- GROUP RELEASE from another member (R141). -/
def State.actGroupRelease (source : Member) (group strip : Byte) (s : State) : State :=
  s.announced source group strip State.takeRelease

/-- GROUP DELTA from another member (R142). The change is taken as carried. -/
def State.actGroupDelta (source : Member) (group strip : Byte) (change : BitVec 16) (s : State) : State :=
  s.announced source group strip fun g k => State.takeDelta g k change.toInt

/-- GROUP_CLAIM. -/
def execGroupClaim (source : Member) (group strip : Byte) (s : State) : Host.Outcome State Fault Refusal :=
  .next (s.whenActing source (State.actGroupClaim source group strip))

/-- GROUP_RELEASE. -/
def execGroupRelease (source : Member) (group strip : Byte) (s : State) : Host.Outcome State Fault Refusal :=
  .next (s.whenActing source (State.actGroupRelease source group strip))

/-- GROUP_DELTA. -/
def execGroupDelta (source : Member) (group strip : Byte) (change : BitVec 16) (s : State) :
    Host.Outcome State Fault Refusal :=
  .next (s.whenActing source (State.actGroupDelta source group strip change))

end Sys2Proof.Machine
end

