-- ==== Sys2Proof/Machine/Cues.lean ====
section
/-! DEFINITION. Automation (chapter 6): touch and release edges, FADER, the transport's effect on LATCH strips, the cue lists,
firing, late cues and flushing. -/

namespace Sys2Proof.Machine

open Sys2Proof

/-- A command whose strip field must be 0 to 31; any other value is refused with MALFORMED. -/
def State.stripCommand (source : Member) (kind strip : Byte) (act : StripNo → State → State) (s : State) : State :=
  match stripOf strip with
  | some n => act n s
  | none => s.refuse source kind strip .malformed

/-- A command whose strip field may also be 255, for all strips: it is applied to strip 0, then strip 1, to strip 31. -/
def State.stripsCommand (source : Member) (kind strip : Byte) (act : StripNo → State → State) (s : State) : State :=
  if strip = 255#8 then allStrips.foldl (fun t n => act n t) s else s.stripCommand source kind strip act

/-! ### Touch and release (R102, R103) -/

/-- R102, items 1 and 2: the record after a touch edge: touch copy and latch. -/
def Strip.touchEdge (rolling : Bool) (st : Strip) : Strip :=
  { st with
    touched := true
    live := if (st.mode = .touch ∨ st.mode = .latch) ∧ st.liveInForce = false then st.auto else st.live
    latched := if st.mode = .latch ∧ rolling = true then true else st.latched }

/-- R102: a touch edge on strip `n`, handed to the Group Table in a mode other than READ and then to a bound unit. -/
def State.touchOn (n : StripNo) (s : State) : State :=
  if (s.strip n).touched then s
  else
    let edged := s.setStrip n ((s.strip n).touchEdge s.clock.rolling)
    let grouped := if (s.strip n).mode = .read then edged else edged.groupTouch n
    grouped.captureEdge n flagTouch

/-- R101: an event that changes a strip's record recomputes its target where the effective fader has changed. -/
def State.setStripEffective (n : StripNo) (length : Nat) (st : Strip) (s : State) : State :=
  if st.effective = (s.strip n).effective then s.setStrip n st else s.setRetargeted n length st

/-- R103: a release edge on strip `n`: the live level may leave force, a lead is released, and a bound unit takes the edge. -/
def State.touchOff (n : StripNo) (s : State) : State :=
  if (s.strip n).touched then
    let edged := s.setStripEffective n (s.strip n).glide { s.strip n with touched := false }
    let grouped := if (s.strip n).mode = .read then edged else edged.releaseIfLead (s.strip n).linkGroup n
    grouped.captureEdge n flagRelease
  else s

/-- R102, R103: TOUCH. -/
def State.actTouch (source : Member) (strip touched : Byte) (s : State) : State :=
  s.stripCommand source kindTouch strip fun n s => if yes touched then s.touchOn n else s.touchOff n

/-- TOUCH. -/
def execTouch (source : Member) (strip touched : Byte) (s : State) : Host.Outcome State Fault Refusal :=
  .next (s.whenActing source (State.actTouch source strip touched))

/-! ### FADER (R104) -/

/-- R104, R139: the change of a leading strip's live level is handed to the Group Table. -/
def State.handMove (n : StripNo) (change : Int) (s : State) : State :=
  match (s.strip n).linkGroup with
  | some g => if s.leads g n then s.leadMove g n change else s
  | none => s

/-- R104: FADER for strip `n`. -/
def State.moveFader (n : StripNo) (level : Int) (s : State) : State :=
  if level = (s.strip n).live then s
  else
    (s.setStripEffective n moveRamp { s.strip n with live := level }).handMove n (level - (s.strip n).live)

/-- R104: FADER, its level clamped silently. -/
def State.actFader (source : Member) (strip : Byte) (level : BitVec 16) (s : State) : State :=
  s.stripCommand source kindFader strip fun n => State.moveFader n (clampLevel level.toInt)

/-- FADER. -/
def execFader (source : Member) (strip : Byte) (level : BitVec 16) (s : State) : Host.Outcome State Fault Refusal :=
  .next (s.whenActing source (State.actFader source strip level))

/-! ### The transport and latched strips (R105) -/

/-- R105, parked to rolling: every touched LATCH strip becomes latched. -/
def Strip.startRoll (st : Strip) : Strip :=
  if st.mode = .latch ∧ st.touched = true then { st with latched := true } else st

/-- R105, rolling to parked: latched is cleared, and a strip whose effective fader that changes takes the glide return. -/
def State.parkStrip (s : State) (st : Strip) : Strip :=
  let parked := { st with latched := false }
  if parked.effective = st.effective then parked else s.retargeted st.glide parked

/-- R105: the change to rolling reaches every strip. -/
def State.stripsRoll (s : State) : State := s.mapStrips fun _ st => st.startRoll

/-- R105: the change to parked reaches every strip. -/
def State.stripsPark (s : State) : State := s.mapStrips fun _ st => s.parkStrip st

/-! ### Cue lists (R106 to R113) -/

/-- R106: a list holds at most 16 cues. -/
def cueLimit : Nat := 16

/-- The cue list of strip `n`. -/
def State.cueList (s : State) (n : StripNo) : List Cue := s.cues[n]

/-- Replace the cue list of strip `n`. -/
def State.setCues (n : StripNo) (l : List Cue) (s : State) : State := { s with cues := s.cues.set n l }

/-- R108: the place a cue's position gives it; a cue at the same position is replaced. -/
def insertCue (c : Cue) : List Cue → List Cue
  | [] => [c]
  | d :: l =>
    if c.position < d.position then c :: d :: l
    else if c.position = d.position then c :: l
    else d :: insertCue c l

/-- R108: whether the list holds a cue at a position. -/
def hasCueAt (q : Position) (l : List Cue) : Bool := l.any fun c => c.position == q

/-- R109: whether an offered cue meets a full list at a position of its own. -/
def cueOverflows (c : Cue) (l : List Cue) : Bool := decide (cueLimit ≤ l.length) && !hasCueAt c.position l

/-- R108, R109: the list after an offered cue. The cue lost at an overflow is the latest of the seventeen, which the
insertion leaves last. -/
def offerCue (c : Cue) (l : List Cue) : List Cue := (insertCue c l).take cueLimit

/-- R108, R109: a cue offered to strip `n`'s list. -/
def State.offerCueTo (n : StripNo) (c : Cue) (s : State) : State :=
  let placed := s.setCues n (offerCue c (s.cueList n))
  if cueOverflows c (s.cueList n) then placed.latch (stripSource n) .cueOverflow else placed

/-- R112: a firing event sets the automation level from the last of its cues, and recomputes the target with that cue's
ramp where the automation level is in force and the effective fader changes. -/
def State.fired (s : State) (c : Cue) (st : Strip) : Strip :=
  let set := { st with auto := c.level }
  if set.effective = st.effective then set else s.retargeted c.ramp set

/-- R112: one cue fires for strip `n`. -/
def State.fireCue (n : StripNo) (c : Cue) (s : State) : State := s.setStrip n (s.fired c (s.strip n))

/-- R107: the ramp taken: 0 reads as 1, and above 48000 as 48000. -/
def cueRamp (carried : BitVec 16) : Nat := max 1 (min 48000 carried.toNat)

/-- R107: the cue a CUE forms. -/
def formCue (f : CueFields) : Cue :=
  { position := f.position, level := clampLevel f.level.toInt, ramp := cueRamp f.ramp }

/-- R110: a cue judged against the transport at its arrival. -/
def State.takeCue (c : Cue) (n : StripNo) (s : State) : State :=
  if s.clock.rolling then
    if c.position < s.clock.position then (s.fireCue n c).latch (stripSource n) .cueLate
    else if c.position = s.clock.position then s.fireCue n c
    else s.offerCueTo n c
  else s.offerCueTo n c

/-- R107: CUE. -/
def State.actCue (source : Member) (f : CueFields) (s : State) : State :=
  s.stripCommand source kindCue f.strip (State.takeCue (formCue f))

/-- CUE. -/
def execCue (source : Member) (f : CueFields) (s : State) : Host.Outcome State Fault Refusal :=
  .next (s.whenActing source (State.actCue source f))

/-- R114: CUE FLUSH. -/
def State.actCueFlush (source : Member) (strip : Byte) (s : State) : State :=
  s.stripsCommand source kindCueFlush strip fun n => State.setCues n []

/-- CUE_FLUSH. -/
def execCueFlush (source : Member) (strip : Byte) (s : State) : Host.Outcome State Fault Refusal :=
  .next (s.whenActing source (State.actCueFlush source strip))

/-- R111: whether a cue is due at a position. -/
def Cue.due (q : Position) (c : Cue) : Bool := decide (c.position ≤ q)

/-- R111, R112: a strip's record after the firing event of position `q`: of the cues due, in position order, the last
stands. -/
def State.firedAt (s : State) (q : Position) (l : List Cue) (st : Strip) : Strip :=
  match (l.takeWhile (Cue.due q)).getLast? with
  | some c => s.fired c st
  | none => st

/-- R111: a rolling position event that is not a discontinuity fires the due cues of every strip. -/
def State.fireCues (q : Position) (s : State) : State :=
  { s.mapStrips fun n st => s.firedAt q (s.cueList n) st with
    cues := Vector.ofFn fun n => s.cues[n].dropWhile (Cue.due q) }

/-- R113: a discontinuity empties every list. -/
def State.emptyCues (s : State) : State := { s with cues := noCues }

end Sys2Proof.Machine
end

