-- ==== Sys2Proof/Machine/Census.lean ====
section
/-! DEFINITION. The Census (chapter 7): local solo, solo active, the three tables, aging and rotation, clearing and the
refresh walk. -/

namespace Sys2Proof.Machine

open Sys2Proof

/-! ### Tables (R121 to R124) -/

/-- R121: the home index of a key, (32 m + s) mod 128. -/
def Key.home (k : Key) : Fin 128 := ⟨(32 * k.member.val + k.strip.val) % 128, by omega⟩

/-- R122: a key is present where its home entry or an entry of that home's chain holds it. -/
def CensusTable.present (t : CensusTable) (k : Key) : Bool :=
  match t.home[k.home] with
  | none => false
  | some h => h.key == k || h.chain.any fun l => l.key == k

/-- The keys of one home, the home entry first and its chain in order. -/
def homeKeys : Option HomeEntry → List Key
  | none => []
  | some h => h.key :: h.chain.map ChainLink.key

/-- R132: the keys of a table in home-index order. -/
def CensusTable.keys (t : CensusTable) : List Key := t.home.toList.flatMap homeKeys

/-- R122: the population of a table. -/
def CensusTable.population (t : CensusTable) : Nat := t.keys.length

/-- Replace a home entry. -/
def CensusTable.setHome (i : Fin 128) (h : Option HomeEntry) (t : CensusTable) : CensusTable :=
  { t with home := t.home.set i h }

/-- R123: the table after learning a key, by the first case that applies. -/
def CensusTable.learn (k : Key) (t : CensusTable) : CensusTable :=
  if t.present k then t
  else match t.home[k.home] with
    | none => t.setHome k.home (some { key := k, chain := [] })
    | some h =>
      match t.free with
      | e :: rest => { t.setHome k.home (some { h with chain := h.chain ++ [{ entry := e, key := k }] }) with free := rest }
      | [] => t

/-- R123: whether a key is not learned for lack of a link entry. -/
def CensusTable.overflows (k : Key) (t : CensusTable) : Bool :=
  !t.present k && t.home[k.home].isSome && t.free.isEmpty

/-- R124: the link entry that holds a key is unlinked; the entry before it takes its link. -/
def unlink (k : Key) : List ChainLink → List ChainLink
  | [] => []
  | l :: ls => if l.key = k then ls else l :: unlink k ls

/-- R124: the table after removing a key, by the first case that applies. -/
def CensusTable.remove (k : Key) (t : CensusTable) : CensusTable :=
  match t.home[k.home] with
  | none => t
  | some h =>
    if h.key = k then
      match h.chain with
      | [] => t.setHome k.home none
      | l :: ls => { t.setHome k.home (some { key := l.key, chain := ls }) with free := l.entry :: t.free }
    else
      match h.chain.find? fun l => l.key == k with
      | some l => { t.setHome k.home (some { h with chain := unlink k h.chain }) with free := l.entry :: t.free }
      | none => t

/-- R128: one home entry is taken: its chain's entries are pushed onto the free stack in chain order, and it is vacant. -/
def CensusTable.clearHome (i : Fin 128) (t : CensusTable) : CensusTable :=
  match t.home[i] with
  | none => t
  | some h => { t.setHome i none with free := h.chain.foldl (fun free l => l.entry :: free) t.free }

/-! ### Solo active (R119) -/

/-- The table that holds a role. -/
def State.table (s : State) (i : Fin 3) : CensusTable := s.census.tables[i]

/-- Change one table. -/
def State.mapTable (i : Fin 3) (f : CensusTable → CensusTable) (s : State) : State :=
  { s with census.tables := s.census.tables.set i (f s.census.tables[i]) }

/-- R119: what solo active is by its two terms. -/
def State.soloWanted (s : State) : Bool :=
  decide (0 < s.census.localSolo) || decide (0 < (s.table s.census.roles.current).population)

/-- R119: solo active judged again: when it changes, every strip's target is recomputed with the solo-cut cause. -/
def State.judgeSolo (s : State) : State :=
  if s.soloWanted = s.census.soloActive then s
  else { s with census.soloActive := s.soloWanted }.retargetAll shortRamp

/-! ### Local solo (R117, R118) -/

/-- R118: the change of a strip's soloed field reaches the targets with the solo-cut cause: one recomputation for each strip
it touches. -/
def State.soloChanged (n : StripNo) (s : State) : State :=
  if s.soloWanted = s.census.soloActive then s.setRetargeted n shortRamp (s.strip n) else s.judgeSolo

/-- R118: state yes for a strip that is not soloed. -/
def State.soloStrip (n : StripNo) (s : State) : State :=
  if (s.strip n).soloed then s
  else
    (({ s.setStrip n { s.strip n with soloed := true } with census.localSolo := s.census.localSolo + 1 }.announce
      (.soloOn n))).soloChanged n

/-- R118, R130: state no for a soloed strip; its refresh-pending mark is cleared. -/
def State.unsoloStrip (n : StripNo) (s : State) : State :=
  if (s.strip n).soloed then
    ({ s.setStrip n { s.strip n with soloed := false } with
        census.localSolo := s.census.localSolo - 1
        census.marks := s.census.marks.set n false }.announce (.soloOff n)).soloChanged n
  else s

/-- R117: SOLO. -/
def State.actSolo (source : Member) (strip state : Byte) (s : State) : State :=
  s.stripsCommand source kindSolo strip fun n s => if yes state then s.soloStrip n else s.unsoloStrip n

/-- SOLO. -/
def execSolo (source : Member) (strip state : Byte) (s : State) : Host.Outcome State Fault Refusal :=
  .next (s.whenActing source (State.actSolo source strip state))

/-! ### Announcements from other members (R120) -/

/-- R123: learning into one table, counted and latched where the key is not learned. -/
def State.learnIn (i : Fin 3) (k : Key) (s : State) : State :=
  let learned := s.mapTable i (CensusTable.learn k)
  if (s.table i).overflows k then (learned.count Counters.addOverflow).latchNode .censusOverflow else learned

/-- R120: a key is learned into the Current and into the Next table, and solo active is judged again. -/
def State.learnKey (k : Key) (s : State) : State :=
  ((s.learnIn s.census.roles.current k).learnIn s.census.roles.next k).judgeSolo

/-- R120: a key is removed from the Current and from the Next table, and solo active is judged again. -/
def State.removeKey (k : Key) (s : State) : State :=
  ((s.mapTable s.census.roles.current (CensusTable.remove k)).mapTable s.census.roles.next
    (CensusTable.remove k)).judgeSolo

/-- R120: an announcement with strip 32 to 255 is discarded. -/
def State.soloAnnounced (source : Member) (strip : Byte) (act : Key → State → State) (s : State) : State :=
  match stripOf strip with
  | some n => act { member := source, strip := n } s
  | none => s

/-- R120: SOLO ON. -/
def State.actSoloOn (source : Member) (strip : Byte) (s : State) : State :=
  s.soloAnnounced source strip State.learnKey

/-- SOLO_ON. -/
def execSoloOn (source : Member) (strip : Byte) (s : State) : Host.Outcome State Fault Refusal :=
  .next (s.whenActing source (State.actSoloOn source strip))

/-- R120: SOLO REFRESH, taken as SOLO ON. -/
def State.actSoloRefresh (source : Member) (strip : Byte) (s : State) : State :=
  s.soloAnnounced source strip State.learnKey

/-- SOLO_REFRESH. -/
def execSoloRefresh (source : Member) (strip : Byte) (s : State) : Host.Outcome State Fault Refusal :=
  .next (s.whenActing source (State.actSoloRefresh source strip))

/-- R120: SOLO OFF. -/
def State.actSoloOff (source : Member) (strip : Byte) (s : State) : State :=
  s.soloAnnounced source strip State.removeKey

/-- SOLO_OFF. -/
def execSoloOff (source : Member) (strip : Byte) (s : State) : Host.Outcome State Fault Refusal :=
  .next (s.whenActing source (State.actSoloOff source strip))

/-! ### Aging and rotation (R125 to R129) -/

/-- R127: Next becomes Current, Empty becomes Next, and the old Current becomes Empty. -/
def Roles.rotate (r : Roles) : Roles := { current := r.next, next := r.empty, empty := r.current }

/-- R127, R128: a rotation is taken, and clearing of the new Empty table begins in the following period: this period's
clearing turn counts as taken. -/
def State.rotate (s : State) : State :=
  { s with census.roles := s.census.roles.rotate, census.clearing := some 0, clock.taken.cleared := true }.judgeSolo

/-- R127 items 1 and 2, R129: the rotation of an aging event is taken, or held while clearing is in progress. -/
def State.rotateOrHold (s : State) : State :=
  if s.census.clearing.isSome then { s with census.held := true } else s.rotate

/-- R127 item 4, R130: every soloed strip is marked refresh-pending; a mark already set stays set. -/
def State.markSoloed (s : State) : State :=
  { s with census.marks := Vector.ofFn fun n => s.census.marks[n] || s.engine.strips[n].soloed }

/-- R127: an aging event: rotation, solo active, Group Table, refresh marks. -/
def State.agingEvent (s : State) : State := s.rotateOrHold.ageGroups.markSoloed

/-- R125: whether the aging timer has reached the aging interval in this period. -/
def State.agingDue (s : State) : Bool := s.periodsPass && decide (s.clock.profile.aging ≤ s.census.agingCount)

/-- R125, R126: the timer's count restarts at 0 and an aging event is taken. -/
def State.restartAging (s : State) : State := { s with census.agingCount := 0 }.agingEvent

/-- AGING_EVENT: the expiry of the aging timer. -/
def execAgingEvent (s : State) : Host.Outcome State Fault Refusal :=
  .next (if s.agingDue then s.restartAging else s)

/-- R143: whether the expiry of the aging timer makes the lead of group `g` lapse. -/
def State.lapseDue (g : GroupNo) (s : State) : Bool :=
  s.agingDue && (s.group g).lead.isSome && !s.leadIsLocal g && decide (2 ≤ (s.group g).silent + 1)

/-- LEAD_LAPSE: the aging event at which the lead of group `g` lapses. -/
def execLeadLapse (g : GroupNo) (s : State) : Host.Outcome State Fault Refusal :=
  .next (if s.lapseDue g then s.restartAging else s)

/-- R126: CENSUS SWEEP takes an aging event at its arrival and restarts the timer. It carries no fields and is never
refused. -/
def State.actCensusSweep (s : State) : State := s.restartAging

/-- CENSUS_SWEEP. -/
def execCensusSweep (source : Member) (s : State) : Host.Outcome State Fault Refusal :=
  .next (s.whenActing source State.actCensusSweep)

/-- R129: the completion of clearing, at which a held rotation is taken. -/
def State.clearingDone (s : State) : State :=
  if s.census.held then { s with census.clearing := none, census.held := false }.rotate
  else { s with census.clearing := none }

/-- R128: one home entry of the Empty table is taken. -/
def State.clearStep (i : Fin 128) (s : State) : State :=
  let taken := { s.mapTable s.census.roles.empty (CensusTable.clearHome i) with clock.taken.cleared := true }
  if h : i.val < 127 then { taken with census.clearing := some ⟨i.val + 1, by omega⟩ } else taken.clearingDone

/-- R128: whether this period's clearing turn is still to be taken. -/
def State.clearingOpen (s : State) : Bool := s.periodsPass && !s.clock.taken.cleared

/-- CENSUS_CLEARING: the clearing turn of one period. -/
def execCensusClearing (s : State) : Host.Outcome State Fault Refusal :=
  .next (match s.census.clearing with
    | some i => if s.clearingOpen then s.clearStep i else s
    | none => s)

/-- CLEARING_COMPLETE: the clearing turn that takes home entry 127. -/
def execClearingComplete (s : State) : Host.Outcome State Fault Refusal :=
  .next (if s.clearingOpen ∧ s.census.clearing = some 127 then s.clearStep 127 else s)

/-! ### The refresh walk (R130, R131) -/

/-- R131: the first strip with a pending mark, in strip order. -/
def State.firstMarkedStrip (s : State) : Option StripNo := allStrips.find? fun n => s.census.marks[n]

/-- R131: the first group with a pending mark, in group order. -/
def State.firstMarkedGroup (s : State) : Option GroupNo := (List.finRange 32).find? fun g => s.groups[g].mark

/-- R131: the walk takes the first pending mark in walk order, strips before groups. -/
def State.takeMark (s : State) : State :=
  match s.firstMarkedStrip with
  | some n => { s with census.marks := s.census.marks.set n false }.announce (.soloRefresh n)
  | none =>
    match s.firstMarkedGroup with
    | some g => (s.setGroup g { s.group g with mark := false }).claimRefresh g
    | none => s

/-- REFRESH_WALK_TURN: the walk's turn in one JOINED period; with fewer than 4 free entries no mark is taken. -/
def execRefreshWalkTurn (s : State) : Host.Outcome State Fault Refusal :=
  .next (if s.joined && !s.clock.taken.walked then
      let turned := { s with clock.taken.walked := true }
      if 4 ≤ s.freeEntries then turned.takeMark else turned
    else s)

end Sys2Proof.Machine
end

