-- ==== Sys2Proof/Machine/Strips.lean ====
section
/-! DEFINITION. The Strip Engine (chapters 2 and 3): STRIP SET, MUTE GROUP, PLACE and the placement swap, and the processing
of one period's samples. -/

namespace Sys2Proof.Machine

open Sys2Proof

/-! ### STRIP SET (R26 to R32) -/

/-- R28: the link group carried, values above 32 taken as 32; 0 is none. -/
def linkField (b : Byte) : Option GroupNo :=
  if h : b.toNat = 0 then none else some ⟨min 32 b.toNat - 1, by omega⟩

/-- The mode codes of R100. -/
def modeOf (b : Byte) : Option Mode :=
  if b = 0#8 then some .manual
  else if b = 1#8 then some .read
  else if b = 2#8 then some .touch
  else if b = 3#8 then some .latch
  else none

/-- R29: glide, clamped, replaces the strip's at once. -/
def State.setGlideField (f : StripSetFields) (n : StripNo) (s : State) : State :=
  if maskBit f.mask 0 then s.setStrip n { s.strip n with glide := clampNat 48 48000 f.glide.toNat } else s

/-- R30: a change of link group: a lead of the old group is released and handed on. -/
def State.setLinkField (f : StripSetFields) (n : StripNo) (s : State) : State :=
  if maskBit f.mask 1 ∧ linkField f.group ≠ (s.strip n).linkGroup then
    (s.setStrip n { s.strip n with linkGroup := linkField f.group }).releaseIfLead (s.strip n).linkGroup n
  else s

/-- R31: the record after a change of mode. Latched is clear after it. The live level takes the effective fader of the old
mode wherever it is in force under the new one (log entry 10: that fader is the one before latched is cleared). -/
def Strip.changeMode (m : Mode) (st : Strip) : Strip :=
  let entered := { st with mode := m, latched := false }
  if entered.liveInForce then { entered with live := st.effective } else entered

/-- R31: a change of mode; entering READ releases a lead (case 5). -/
def State.setModeField (f : StripSetFields) (n : StripNo) (s : State) : State :=
  match modeOf f.mode with
  | some m =>
    if maskBit f.mask 2 ∧ m ≠ (s.strip n).mode then
      let entered := s.setStrip n ((s.strip n).changeMode m)
      if m = .read then entered.releaseIfLead (s.strip n).linkGroup n else entered
    else s
  | none => s

/-- R32: trim, cut, mute groups and solo-safe take their values at once. -/
def Strip.setPlainFields (f : StripSetFields) (st : Strip) : Strip :=
  { st with
    trim := if maskBit f.mask 3 then clamp (-200) 200 f.trim.toInt else st.trim
    cut := if maskBit f.mask 4 then yes f.cut else st.cut
    mutes := if maskBit f.mask 5 then f.mutes else st.mutes
    safe := if maskBit f.mask 6 then yes f.safe else st.safe }

/-- R27: the ramp length of the last field, in the order of application, that changed and carries a ramp cause. `before` is
the record before the mode field, `after` the record after the last field. -/
def stripSetLength (active : BitVec 16) (before after : Strip) : Option Nat :=
  if after.safe ≠ before.safe then some shortRamp
  else if after.muted active ≠ before.muted active then some shortRamp
  else if after.cut ≠ before.cut then some shortRamp
  else if after.trim ≠ before.trim then some moveRamp
  else if after.effective ≠ before.effective then some after.glide
  else none

/-- R27: an accepted STRIP SET applied to one strip: glide, link group, mode, trim, cut, mute groups, solo-safe, then one
recomputation. -/
def State.applyStripSet (f : StripSetFields) (n : StripNo) (s : State) : State :=
  let linked := (s.setGlideField f n).setLinkField f n
  let moded := linked.setModeField f n
  let after := (moded.strip n).setPlainFields f
  match stripSetLength s.engine.activeMutes (linked.strip n) after with
  | some length => moded.setRetargeted n length after
  | none => moded.setStrip n after

/-- R26: a STRIP SET whose mode is named and none of the four is malformed, as is a strip field of 32 to 254. -/
def State.actStripSet (source : Member) (f : StripSetFields) (s : State) : State :=
  if maskBit f.mask 2 ∧ modeOf f.mode = none then s.refuse source kindStripSet f.strip .malformed
  else s.stripsCommand source kindStripSet f.strip (State.applyStripSet f)

/-- STRIP_SET. -/
def execStripSet (source : Member) (f : StripSetFields) (s : State) : Host.Outcome State Fault Refusal :=
  .next (s.whenActing source (State.actStripSet source f))

/-! ### MUTE GROUP (R34, R35) -/

/-- R34: the active set with one group added or removed. -/
def withMute (g : Nat) (on : Bool) (active : BitVec 16) : BitVec 16 :=
  if on then active ||| (1#16 <<< (g - 1)) else active &&& ~~~(1#16 <<< (g - 1))

/-- R35: the active set changes; every strip whose muted state changes takes the mute group cause. -/
def State.setActiveMutes (active : BitVec 16) (s : State) : State :=
  let t := { s with engine.activeMutes := active }
  t.mapStrips fun _ st => if st.muted active ≠ st.muted s.engine.activeMutes then t.retargeted shortRamp st else st

/-- R34: MUTE GROUP. -/
def State.actMuteGroup (source : Member) (group state : Byte) (s : State) : State :=
  if 1 ≤ group.toNat ∧ group.toNat ≤ 16 then
    s.setActiveMutes (withMute group.toNat (yes state) s.engine.activeMutes)
  else s.refuse source kindMuteGroup group .malformed

/-- MUTE_GROUP. -/
def execMuteGroup (source : Member) (group state : Byte) (s : State) : Host.Outcome State Fault Refusal :=
  .next (s.whenActing source (State.actMuteGroup source group state))

/-! ### PLACE (R36 to R38) -/

/-- R36: the taps a PLACE carries: the first `count` of its four places. -/
def carriedTaps (f : PlaceFields) : List TapField := [f.tap0, f.tap1, f.tap2, f.tap3].take f.count.toNat

/-- R36: a tap as taken: its coefficient clamped to 32768. -/
def tapOf (t : TapField) : Option Tap := (laneOf t.lane).map fun lane => { lane, coef := min 32768 t.coef.toNat }

/-- The taps of a PLACE, or none where one of them names a lane above 63. -/
def tapsOf (ts : List TapField) : Option (List Tap) := ts.mapM tapOf

/-- R36: whether no two taps stand on the same lane. -/
def distinctLanes (ts : List Tap) : Bool := decide (ts.map Tap.lane).Nodup

/-- R36: the taps of a well-formed PLACE for a strip whose staged placement is `staged`; none where it is malformed. -/
def placeTaps (f : PlaceFields) (staged : Option (List Tap)) : Option (List Tap) :=
  match tapsOf (carriedTaps f) with
  | none => none
  | some ts =>
    let second := f.parts = 2#8 ∧ f.part = 2#8
    if (f.parts = 1#8 ∨ f.parts = 2#8) ∧ (f.part = 1#8 ∨ second) ∧ f.count.toNat ≤ 4 ∧
        ¬(f.parts = 2#8 ∧ f.count = 0#8) ∧ distinctLanes ts = true ∧
        (second → staged.isSome = true ∧ distinctLanes (staged.getD [] ++ ts) = true) then
      some ts
    else none

/-- R38: a complete placement is committed. -/
def State.commit (n : StripNo) (taps : List Tap) (s : State) : State :=
  let st := s.strip n
  if st.swapPending then s.setStrip n { st with incoming := some taps }
  else if st.ramp.applied = 0 then s.setRetargeted n shortRamp { st with placement := taps }
  else s.setRetargeted n shortRamp { st with incoming := some taps, swapPending := true }

/-- R37: a well-formed PLACE by its part number and part count. -/
def State.takePlace (f : PlaceFields) (n : StripNo) (taps : List Tap) (s : State) : State :=
  let st := s.strip n
  if f.parts = 1#8 then (s.setStrip n { st with staged := none }).commit n taps
  else if f.part = 1#8 then s.setStrip n { st with staged := some taps }
  else (s.setStrip n { st with staged := none }).commit n (st.staged.getD [] ++ taps)

/-- R36: PLACE. A malformed one is refused, and discards the staged placement of the strip it names. -/
def State.actPlace (source : Member) (f : PlaceFields) (s : State) : State :=
  match stripOf f.strip with
  | none => s.refuse source kindPlace f.strip .malformed
  | some n =>
    match placeTaps f (s.strip n).staged with
    | some taps => s.takePlace f n taps
    | none => (s.setStrip n { s.strip n with staged := none }).refuse source kindPlace f.strip .malformed

/-- PLACE. -/
def execPlace (source : Member) (f : PlaceFields) (s : State) : Host.Outcome State Fault Refusal :=
  .next (s.whenActing source (State.actPlace source f))

/-! ### The contribution history (R14) -/

/-- R14: every entry moves one depth deeper, and depth 0 takes the sums handed over. -/
def LaneAdder.advance (a : LaneAdder) : LaneAdder :=
  { history := Vector.ofFn fun d : Fin 31 => if h : d.val = 0 then a.handed else a.history[d.val - 1]'(by omega)
    handed := zeroRow }

/-- R14, R61: the state whose current period has begun its work: the period's advance is taken, once. The advance stands at
the start of the period, so every step of the period that reads the history or hands over sums is taken on this state
(log entry 3). -/
def State.begun (s : State) : State :=
  if s.clock.taken.advanced then s else { s with adder := s.adder.advance, clock.taken.advanced := true }

/-- HISTORY_ADVANCE: the start of one period. -/
def execHistoryAdvance (s : State) : Host.Outcome State Fault Refusal :=
  .next (if s.periodsPass then s.begun else s)

/-! ### Sample processing (R53 to R61) -/

/-- The divisor of the strip product and of the output sample, 2^22. -/
def unityCoef : Nat := 4194304

/-- R53: the sample strip `n` processes: 0 while its port has lost framing. -/
def State.inputSample (samples : List Sample) (n : StripNo) (s : State) : Int :=
  if s.clock.ports[n.val / 8]'(by omega) then (samples.getD n.val 0#24).toInt else 0

/-- R54 item 1: the record after its ramp step. -/
def Strip.stepped (st : Strip) : Strip := { st with ramp := st.ramp.advance }

/-- R56: the strip product of sample `x`. -/
def Strip.product (x : Int) (st : Strip) : Int := roundDiv (x * st.ramp.applied) unityCoef

/-- R59: a tap product. -/
def tapProduct (y : Int) (t : Tap) : Int := roundDiv (y * t.coef) 32768

/-- R60: what one strip adds to lane `j`. -/
def Strip.contribution (y : Int) (j : LaneNo) (st : Strip) : Int :=
  (st.placement.map fun t => if t.lane = j then tapProduct y t else 0).sum

/-- R39: whether the swap completes after this period's step. -/
def Strip.swapDone (st : Strip) : Bool := st.swapPending && st.ramp.applied == 0

/-- R39: the incoming placement takes over. -/
def Strip.swapped (st : Strip) : Strip :=
  { st with placement := st.incoming.getD st.placement, incoming := none, swapPending := false }

/-- R54: one strip's record after the processing of sample `x`: step, product, peak, and the swap where it completes. -/
def State.processed (s : State) (x : Int) (st : Strip) : Strip :=
  let after := { st.stepped with peak := max st.peak (st.stepped.product x).natAbs }
  if after.swapDone then s.retargeted shortRamp after.swapped else after

/-- R57: whether a strip product latches OVER. -/
def isOver (y : Int) : Bool := decide (8388608 ≤ y.natAbs)

/-- R54, R60: the per-lane sums of one period's samples. -/
def State.laneSums (samples : List Sample) (s : State) : LaneRow :=
  Vector.ofFn fun j => (allStrips.map fun n =>
    (s.strip n).stepped.contribution ((s.strip n).stepped.product (s.inputSample samples n)) j).sum

/-- R54: the processing of one period's samples. -/
def State.processSamples (samples : List Sample) (s : State) : State :=
  let done := { s.mapStrips fun n st => s.processed (s.inputSample samples n) st with
    adder.handed := s.laneSums samples
    clock.taken.sampled := true }
  done.latchStrips fun n => if isOver ((s.strip n).stepped.product (s.inputSample samples n)) then [.over] else []

/-- Whether this period's samples are still to be processed. -/
def State.samplingOpen (s : State) : Bool := s.periodsPass && !s.clock.taken.sampled

/-- SAMPLE_PROCESSING: the close of one period. -/
def execSampleProcessing (samples : List Sample) (s : State) : Host.Outcome State Fault Refusal :=
  .next (if s.samplingOpen then s.begun.processSamples samples else s)

/-- SWAP_COMPLETION: the processing in which strip `n`'s swap completes. -/
def execSwapCompletion (n : StripNo) (samples : List Sample) (s : State) : Host.Outcome State Fault Refusal :=
  .next (if s.samplingOpen && (s.strip n).stepped.swapDone then s.begun.processSamples samples else s)

end Sys2Proof.Machine
end

