-- ==== Sys2Proof/Machine/Anchors.lean ====
section
/-! DEFINITION. The Anchor Outputs (chapter 4): the hand-off of one emission, learning the loop size, realigning, OUTPUT SET
and output processing. -/

namespace Sys2Proof.Machine

open Sys2Proof

/-- An anchor after an event, with the notice events the event latches for it, in order. -/
structure AnchorStep where
  anchor : Anchor
  events : List NoticeEvent
deriving DecidableEq, Repr

/-! ### State entries (R69 to R73) -/

/-- R73: a recomputation that leaves the ramp complete in RISING or REALIGN UP enters RUNNING. -/
def Anchor.settleRunning (a : Anchor) : Anchor :=
  if (a.state = .rising ∨ a.state = .realignUp) ∧ a.ramp.inProgress = false then { a with state := .running } else a

/-- R69: entering RISING, with the completed run's age settled. -/
def Anchor.enterRising (age : Fin 16) (a : Anchor) : Anchor :=
  ({ a with settledAge := some age, state := .rising }.retarget shortRamp).settleRunning

/-- R71: entering REALIGN UP. -/
def Anchor.enterRealignUp (a : Anchor) : Anchor :=
  ({ a with pendingAge := none, state := .realignUp }.retarget shortRamp).settleRunning

/-- R71: the switch: the pending age becomes the settled age, D with it, REALIGNED is latched, and REALIGN UP entered. -/
def Anchor.switch (a : Anchor) : AnchorStep :=
  { anchor := { a with settledAge := a.pendingAge }.enterRealignUp, events := [.realigned] }

/-- R70, R71: entering REALIGN DOWN; the switch is taken at once where the master ramp is already complete. -/
def Anchor.enterRealignDown (age : Fin 16) (a : Anchor) : AnchorStep :=
  let down := { a with pendingAge := some age, state := .realignDown }.retarget shortRamp
  if down.ramp.inProgress then { anchor := down, events := [] } else down.switch

/-- R69, R70, R71: a completed run of an age, by the output state. -/
def Anchor.runCompleted (age : Fin 16) (a : Anchor) : AnchorStep :=
  match a.state with
  | .silent => { anchor := a, events := [] }
  | .settling => { anchor := a.enterRising age, events := [] }
  | .rising | .running | .realignUp =>
    if a.settledAge = some age then { anchor := a, events := [] } else a.enterRealignDown age
  | .realignDown =>
    if a.pendingAge = some age then { anchor := a, events := [] }
    else if a.settledAge = some age then { anchor := a.enterRealignUp, events := [] }
    else { anchor := { a with pendingAge := some age }, events := [] }

/-! ### One hand-off (R65, R66, R68) -/

/-- R69: at the first hand-off after joining an anchor in SILENT enters SETTLING. -/
def Anchor.enterSettling (a : Anchor) : Anchor := if a.state = .silent then { a with state := .settling } else a

/-- R65: what a record writes. -/
def Anchor.written (r : HandOff) (a : Anchor) : Int :=
  match r with
  | .good value _ => value
  | .bad => a.lastWritten.tdiv 2

/-- R65: every entry moves one depth deeper and a value is written at depth 0. -/
def pushDelay (value : Int) (delay : Vector Int 238) : Vector Int 238 :=
  Vector.ofFn fun d : Fin 238 => if h : d.val = 0 then value else delay[d.val - 1]'(by omega)

/-- R65: the write of the delay line. -/
def Anchor.write (r : HandOff) (a : Anchor) : Anchor :=
  { a with delay := pushDelay (a.written r) a.delay, lastWritten := a.written r }

/-- R66: the bad run and faulted after a record. -/
def Anchor.updateBadRun (r : HandOff) (a : Anchor) : Anchor :=
  match r with
  | .good _ _ => { a with badRun := 0, faulted := false }
  | .bad => { a with badRun := holdAt 48 (a.badRun + 1), faulted := a.faulted || decide (47 = a.badRun) }

/-- R66: FAULT BEGUN at the 48th consecutive bad period, FAULT ENDED at the good record that ends a faulted run. -/
def Anchor.faultEvents (r : HandOff) (a : Anchor) : List NoticeEvent :=
  match r with
  | .good _ _ => if a.faulted then [.faultEnded] else []
  | .bad => if a.badRun = 47 ∧ a.faulted = false then [.faultBegun] else []

/-- R68: the candidate age and run after a record. -/
def Anchor.updateCandidate (r : HandOff) (a : Anchor) : Anchor :=
  match r with
  | .bad => { a with candidateAge := none, candidateRun := 0 }
  | .good _ age =>
    if a.candidateAge = some age then { a with candidateRun := holdAt 48 (a.candidateRun + 1) }
    else { a with candidateAge := some age, candidateRun := 1 }

/-- R68: whether a record brings the candidate run from 47 to 48, and of which age. -/
def Anchor.completes (r : HandOff) (a : Anchor) : Option (Fin 16) :=
  match r with
  | .bad => none
  | .good _ age => if a.candidateAge = some age ∧ a.candidateRun = 47 then some age else none

/-- R68: the three updates of one hand-off, before a completed run is acted on. -/
def Anchor.recorded (r : HandOff) (a : Anchor) : Anchor :=
  ((a.enterSettling.write r).updateBadRun r).updateCandidate r

/-- R65 to R71: one hand-off. -/
def Anchor.handOff (r : HandOff) (a : Anchor) : AnchorStep :=
  match a.completes r with
  | none => { anchor := a.recorded r, events := a.faultEvents r }
  | some age =>
    let acted := (a.recorded r).runCompleted age
    { acted with events := a.faultEvents r ++ acted.events }

/-- The anchors after one event each, with what it latches. -/
def State.stepAnchors (steps : List AnchorStep) (s : State) : State :=
  { s with outputs.anchors := steps.map AnchorStep.anchor }.latchAnchors fun m =>
    match steps[m]? with
    | some st => st.events
    | none => []

/-! ### OUTPUT SET (R74) -/

/-- R74: one anchor takes the named fields, and its target is recomputed once where a field changed. -/
def Anchor.outputSet (f : OutputSetFields) (a : Anchor) : Anchor :=
  let level := if maskBit f.mask 0 then clampLevel f.level.toInt else a.level
  let mute := if maskBit f.mask 1 then yes f.mute else a.mute
  let set := { a with level, mute }
  if mute ≠ a.mute then (set.retarget shortRamp).settleRunning
  else if level ≠ a.level then (set.retarget moveRamp).settleRunning
  else a

/-- The number of the anchor of a lane. -/
def State.anchorOf (lane : LaneNo) (s : State) : Option Nat := s.outputs.anchors.findIdx? fun a => a.lane == lane

/-- R74: OUTPUT SET. -/
def State.actOutputSet (source : Member) (f : OutputSetFields) (s : State) : State :=
  if f.lane = 255#8 then { s with outputs.anchors := s.outputs.anchors.map (Anchor.outputSet f) }
  else match laneOf f.lane with
    | none => s.refuse source kindOutputSet f.lane .malformed
    | some lane =>
      if (s.anchorOf lane).isSome then
        { s with outputs.anchors := s.outputs.anchors.map fun a => if a.lane = lane then a.outputSet f else a }
      else s.refuse source kindOutputSet f.lane .notReady

/-- OUTPUT_SET. -/
def execOutputSet (source : Member) (f : OutputSetFields) (s : State) : Host.Outcome State Fault Refusal :=
  .next (s.whenActing source (State.actOutputSet source f))

/-! ### Output processing (R75) -/

/-- R75 item 2: the delayed value. -/
def Anchor.delayed (latency : Nat) (a : Anchor) : Int :=
  match a.delayDepth latency with
  | some d => a.delay.toList.getD d 0
  | none => 0

/-- R75 item 3 before the clamp. -/
def Anchor.scaled (latency : Nat) (a : Anchor) : Int := roundDiv (a.delayed latency * a.ramp.applied) unityCoef

/-- R75 item 3: the clamp to a 24-bit sample. -/
def clampSample (x : Int) : Int := clamp (-8388608) 8388607 x

/-- R75 item 1: the anchor after its master ramp's step. -/
def Anchor.stepped (a : Anchor) : Anchor := { a with ramp := a.ramp.advance }

/-- R75: the output sample of one anchor in one period. -/
def Anchor.output (latency : Nat) (a : Anchor) : Int := clampSample (a.stepped.scaled latency)

/-- R75 item 3: CLIP where the clamp acts. -/
def Anchor.clipEvents (latency : Nat) (a : Anchor) : List NoticeEvent :=
  if a.output latency = a.stepped.scaled latency then [] else [.clip]

/-- R73: whether this period's step completes the master ramp. -/
def Anchor.rampCompletes (a : Anchor) : Bool := a.ramp.inProgress && !a.stepped.ramp.inProgress

/-- R73, R75 item 6: the state change that follows a completing step. -/
def Anchor.afterStep (a : Anchor) : AnchorStep :=
  match a.state with
  | .rising | .realignUp => { anchor := { a with state := .running }, events := [] }
  | .realignDown => a.switch
  | .silent | .settling | .running => { anchor := a, events := [] }

/-- R75, R76: one output processing of one anchor. -/
def Anchor.process (latency : Nat) (a : Anchor) : AnchorStep :=
  let after := { a.stepped with peak := max a.peak (a.output latency).natAbs }
  if a.rampCompletes then
    { after.afterStep with events := a.clipEvents latency ++ after.afterStep.events }
  else { anchor := after, events := a.clipEvents latency }

/-- R77: what the output slots carry: the sample of the anchor that names the slot, and 0 elsewhere. -/
def State.slotSamples (s : State) : Vector Int 32 :=
  Vector.ofFn fun slot =>
    match s.outputs.anchors.find? fun a => a.slot == slot with
    | some a => a.output s.clock.profile.latency
    | none => 0

/-- R75, R77: the output processing of one period. -/
def State.processOutputs (s : State) : State :=
  { s with outputs.slots := s.slotSamples, clock.taken.output := true }.stepAnchors
    (s.outputs.anchors.map (Anchor.process s.clock.profile.latency))

/-- Whether this period's output processing is still to be taken. -/
def State.outputOpen (s : State) : Bool := s.periodsPass && !s.clock.taken.output

/-- OUTPUT_PROCESSING. -/
def execOutputProcessing (s : State) : Host.Outcome State Fault Refusal :=
  .next (if s.outputOpen then s.processOutputs else s)

/-- Whether anchor `m` exists and `p` holds of it. -/
def State.anchorIs (m : AnchorNo) (p : Anchor → Bool) (s : State) : Bool :=
  match s.outputs.anchors[m.val]? with
  | some a => p a
  | none => false

/-- REALIGN_SWITCH: the output processing whose step completes anchor `m`'s master ramp in REALIGN DOWN. -/
def execRealignSwitch (m : AnchorNo) (s : State) : Host.Outcome State Fault Refusal :=
  .next (if s.outputOpen && s.anchorIs m fun a => a.state == .realignDown && a.rampCompletes then s.processOutputs
    else s)

/-- ENTER_RUNNING: the output processing whose step completes anchor `m`'s master ramp in RISING or REALIGN UP. -/
def execEnterRunning (m : AnchorNo) (s : State) : Host.Outcome State Fault Refusal :=
  .next (if s.outputOpen &&
        s.anchorIs m fun a => (a.state == .rising || a.state == .realignUp) && a.rampCompletes then s.processOutputs
    else s)

end Sys2Proof.Machine
end

