-- ==== Sys2Proof/Machine/Reports.lean ====
section
/-! DEFINITION. The Report Scanner (chapter 10) and the answers to queries (R98, with R24, R80, R106, R132, R146, R161). -/

namespace Sys2Proof.Machine

open Sys2Proof

/-! ### Meter reports (R162, R163) -/

/-- The report member's destination byte. -/
def State.reportMember (s : State) : Byte := memberByte s.clock.profile.reportMember

/-- R163: the peak code, floor(P / 512), held at 65535. -/
def peakCode (peak : Nat) : Nat := holdAt 65535 (peak / 512)

/-- R163: strips or anchors 8b to 8b + 7. -/
def blockOf (b : Nat) (i : Nat) : Bool := i / 8 == b

/-- R163: the codes of a strip block. -/
def State.stripCodes (b : Nat) (s : State) : List Nat :=
  ((s.engine.strips.toList.drop (8 * b)).take 8).map fun st => peakCode st.peak

/-- R163: the codes of an anchor block. -/
def State.anchorCodes (b : Nat) (s : State) : List Nat :=
  ((s.outputs.anchors.drop (8 * b)).take 8).map fun a => peakCode a.peak

/-- R162, R58: a strip block's message is queued and its peaks are cleared, or it is skipped for want of 4 free entries. -/
def State.stripMeter (s : State) (b : Nat) : State :=
  if 4 ≤ s.freeEntries then
    (s.offer { dest := s.reportMember, body := .meter false b (s.stripCodes b) }).mapStrips fun n st =>
      if blockOf b n.val then { st with peak := 0 } else st
  else s

/-- R76: the peaks of one anchor block cleared. -/
def clearAnchorPeaks (b : Nat) (anchors : List Anchor) : List Anchor :=
  anchors.mapIdx fun m a => if blockOf b m then { a with peak := 0 } else a

/-- R162, R76: an anchor block's message is queued and its peaks are cleared, or it is skipped. -/
def State.anchorMeter (s : State) (b : Nat) : State :=
  if 4 ≤ s.freeEntries then
    let queued := s.offer { dest := s.reportMember, body := .meter true b (s.anchorCodes b) }
    { queued with outputs.anchors := clearAnchorPeaks b queued.outputs.anchors }
  else s

/-- R162: strip blocks 0 to 3, then the anchor blocks, ⌈k / 8⌉ of them. -/
def State.meterReports (s : State) : State :=
  (List.range ((s.outputs.anchors.length + 7) / 8)).foldl State.anchorMeter ((List.range 4).foldl State.stripMeter s)

/-- R162: whether the meter timer has reached the meter interval in this period. -/
def State.meterDue (s : State) : Bool := s.periodsPass && decide (s.clock.profile.meter ≤ s.reports.meterCount)

/-- METER_EVENT: the expiry of the meter timer. The count restarts; nothing is offered in PASSING or with meters off. -/
def execMeterEvent (s : State) : Host.Outcome State Fault Refusal :=
  .next (if s.meterDue then
      let restarted := { s with reports.meterCount := 0 }
      if s.joined && s.reports.metersOn then restarted.meterReports else restarted
    else s)

/-! ### The scanner (R165) -/

/-- R165: the scan position advances by one, from 64 back to 0. -/
def nextSource (src : SourceNo) : SourceNo := if h : src.val < 64 then ⟨src.val + 1, by omega⟩ else 0

/-- R165: the NOTICE of a vector. -/
def State.noticeOf (src : SourceNo) (s : State) : OutMsg :=
  { dest := s.reportMember, body := .notice src s.reports.vectors[src].events s.reports.vectors[src].count }

/-- R165: the visit to one source: its notice is queued and its vector cleared where it holds events and there is room. -/
def State.visit (src : SourceNo) (s : State) : State :=
  if s.reports.vectors[src].events ≠ 0#24 ∧ 4 ≤ s.freeEntries then
    let queued := s.offer (s.noticeOf src)
    { queued with reports.vectors := queued.reports.vectors.set src EventVector.empty }
  else s

/-- SCANNER_VISIT: one visit in each JOINED period while notices are not inhibited. -/
def execScannerVisit (s : State) : Host.Outcome State Fault Refusal :=
  .next (if s.joined && !s.reports.inhibited && !s.clock.taken.visited then
      { s.visit s.reports.scan with reports.scan := nextSource s.reports.scan, clock.taken.visited := true }
    else s)

/-! ### REPORT CONTROL (R166) -/

/-- R166: REPORT CONTROL is not refused. -/
def State.actReportControl (f : ReportControlFields) (s : State) : State :=
  { s with
    reports.metersOn := if maskBit f.mask 0 then yes f.meters else s.reports.metersOn
    reports.inhibited := if maskBit f.mask 1 then yes f.notices else s.reports.inhibited }

/-- REPORT_CONTROL. -/
def execReportControl (source : Member) (f : ReportControlFields) (s : State) : Host.Outcome State Fault Refusal :=
  .next (s.whenActing source (State.actReportControl f))

/-! ### Queries (R98) -/

/-- The query items of R100. -/
inductive QueryItem where
  | strip
  | cues
  | census
  | group
  | capture
  | anchor
  | counters
deriving DecidableEq, Repr

/-- The item codes of R100. -/
def QueryItem.code : QueryItem → Byte
  | .strip => 1#8
  | .cues => 2#8
  | .census => 3#8
  | .group => 4#8
  | .capture => 5#8
  | .anchor => 6#8
  | .counters => 7#8

/-- A list cut into lists of `size` elements, in order, the last carrying the remainder. The fuel is the list's length. -/
def chunksOf {α : Type} (size : Nat) : Nat → List α → List (List α)
  | 0, _ => []
  | _ + 1, [] => []
  | fuel + 1, l@(_ :: _) => l.take size :: chunksOf size fuel (l.drop size)

/-- R24: what a QUERY of STRIP reports of a record. -/
def Strip.report (n : StripNo) (st : Strip) : StripReport :=
  { number := n, trim := st.trim, mode := st.mode, live := st.live, auto := st.auto, touched := st.touched
    latched := st.latched, linkGroup := st.linkGroup, offset := st.offset, cut := st.cut, mutes := st.mutes
    soloed := st.soloed, safe := st.safe, glide := st.glide, placement := st.placement, staged := st.staged
    incoming := st.incoming, swapPending := st.swapPending, binding := st.binding }

/-- R98: three parts for STRIP. -/
def State.stripShares (n : StripNo) (s : State) : List ReplyShare :=
  [1, 2, 3].map fun part => .strip part ((s.strip n).report n) s.engine.activeMutes

/-- R98, R106: the list in position order, two cues to a part, and one part where it is empty. -/
def State.cueShares (n : StripNo) (s : State) : List ReplyShare :=
  match s.cueList n with
  | [] => [.cues []]
  | l => (chunksOf 2 l.length l).map .cues

/-- R132: the summary part. -/
def State.censusSummary (s : State) : CensusSummary :=
  { roles := s.census.roles
    currentPopulation := (s.table s.census.roles.current).population
    nextPopulation := (s.table s.census.roles.next).population
    freeDepths := s.census.tables.toList.map fun t => t.free.length
    clearing := s.census.clearing
    held := s.census.held
    agingCount := s.census.agingCount
    agingInterval := s.clock.profile.aging
    localSolo := s.census.localSolo
    soloActive := s.census.soloActive }

/-- R132: the summary, then the keys of the Current table, twelve to a part. -/
def State.censusShares (s : State) : List ReplyShare :=
  let keys := (s.table s.census.roles.current).keys
  .censusSummary s.censusSummary :: (chunksOf 12 keys.length keys).map .censusKeys

/-- R146: the group table entry, its local members and the waiters among them. -/
def State.groupReport (g : GroupNo) (s : State) : GroupReport :=
  { group := g, lead := (s.group g).lead, isLocal := s.leadIsLocal g, silent := (s.group g).silent
    mark := (s.group g).mark, members := allStrips.filter (s.isMember g), waiters := allStrips.filter (s.isWaiter g) }

/-- R161: part 1 and part 2. -/
def CaptureUnit.shares (c : CaptureUnit) : List ReplyShare :=
  [.captureUnit { state := c.state, bound := c.bound, settings := c.settings, buffered := c.buffer.length
                  marks := c.marks, recordsSent := c.recordsSent, overruns := c.overruns, conditions := c.conditions
                  keepalive := c.keepalive, lastLevel := c.lastLevel },
   .captureEnd c.endRecord]

/-- R80: what is reported of an anchor. -/
def Anchor.report (latency number : Nat) (a : Anchor) : AnchorReport :=
  { number, slot := a.slot, state := a.state, settledAge := a.settledAge, outputDelay := a.delayDepth latency
    pendingAge := a.pendingAge, candidateAge := a.candidateAge, candidateRun := a.candidateRun, badRun := a.badRun
    faulted := a.faulted, level := a.level, mute := a.mute, appliedMaster := a.ramp.applied
    masterTarget := a.ramp.target, lastWritten := a.lastWritten }

/-- R80, R98: one part where the lane is not anchored here, otherwise two. -/
def State.anchorShares (lane : LaneNo) (s : State) : List ReplyShare :=
  match s.anchorOf lane with
  | none => [.anchor 1 lane none]
  | some m =>
    let report := (s.outputs.anchors[m]?).map (Anchor.report s.clock.profile.latency m)
    [.anchor 1 lane report, .anchor 2 lane report]

/-- R98: the node counters, the upstream member and the occupancies. -/
def State.countersReport (s : State) : CountersReport :=
  { counters := s.message.counters, upstream := s.port.upstream, queued := s.message.outbound.length
    inFlight := s.message.inFlight.length }

/-- R98: the parts of a reply, numbered from 1. -/
def replyParts (item object : Byte) (shares : List ReplyShare) : List Body :=
  shares.mapIdx fun i share => .reply item object (i + 1) shares.length share

/-- R98: a reply whose parts find room joins the tail part by part; otherwise the QUERY is refused with BUSY. `after` is
what follows an answer. -/
def State.answer (source : Member) (item : QueryItem) (object : Byte) (shares : List ReplyShare)
    (after : State → State) (s : State) : State :=
  if s.freeEntries < shares.length then s.refuse source kindQuery object .busy
  else
    after ((replyParts item.code object shares).foldl
      (fun t b => t.offer { dest := memberByte source, body := b }) s)

/-- R98: a malformed QUERY. -/
def State.refuseQuery (source : Member) (object : Byte) (s : State) : State :=
  s.refuse source kindQuery object .malformed

/-- R98: QUERY of STRIP. -/
def State.actQueryStrip (source : Member) (object : Byte) (s : State) : State :=
  match stripOf object with
  | some n => s.answer source .strip object (s.stripShares n) id
  | none => s.refuseQuery source object

/-- QUERY_STRIP. -/
def execQueryStrip (source : Member) (object _clear : Byte) (s : State) : Host.Outcome State Fault Refusal :=
  .next (s.whenActing source (State.actQueryStrip source object))

/-- R98: QUERY of CUES. -/
def State.actQueryCues (source : Member) (object : Byte) (s : State) : State :=
  match stripOf object with
  | some n => s.answer source .cues object (s.cueShares n) id
  | none => s.refuseQuery source object

/-- QUERY_CUES. -/
def execQueryCues (source : Member) (object _clear : Byte) (s : State) : Host.Outcome State Fault Refusal :=
  .next (s.whenActing source (State.actQueryCues source object))

/-- R98: QUERY of CENSUS; the object is disregarded. -/
def State.actQueryCensus (source : Member) (object : Byte) (s : State) : State :=
  s.answer source .census object s.censusShares id

/-- QUERY_CENSUS. -/
def execQueryCensus (source : Member) (object _clear : Byte) (s : State) : Host.Outcome State Fault Refusal :=
  .next (s.whenActing source (State.actQueryCensus source object))

/-- R98: QUERY of GROUP. -/
def State.actQueryGroup (source : Member) (object : Byte) (s : State) : State :=
  match groupOf object with
  | some g => s.answer source .group object [.group (s.groupReport g)] id
  | none => s.refuseQuery source object

/-- QUERY_GROUP. -/
def execQueryGroup (source : Member) (object _clear : Byte) (s : State) : Host.Outcome State Fault Refusal :=
  .next (s.whenActing source (State.actQueryGroup source object))

/-- R98: QUERY of CAPTURE. -/
def State.actQueryCapture (source : Member) (object : Byte) (s : State) : State :=
  match unitOf object with
  | some u => s.answer source .capture object (s.captureUnit u).shares id
  | none => s.refuseQuery source object

/-- QUERY_CAPTURE. -/
def execQueryCapture (source : Member) (object _clear : Byte) (s : State) : Host.Outcome State Fault Refusal :=
  .next (s.whenActing source (State.actQueryCapture source object))

/-- R98: QUERY of ANCHOR. -/
def State.actQueryAnchor (source : Member) (object : Byte) (s : State) : State :=
  match laneOf object with
  | some lane => s.answer source .anchor object (s.anchorShares lane) id
  | none => s.refuseQuery source object

/-- QUERY_ANCHOR. -/
def execQueryAnchor (source : Member) (object _clear : Byte) (s : State) : Host.Outcome State Fault Refusal :=
  .next (s.whenActing source (State.actQueryAnchor source object))

/-- R98: QUERY of COUNTERS; an answered one with the clear flag sets every counter to 0 after its value is taken. -/
def State.actQueryCounters (source : Member) (object clear : Byte) (s : State) : State :=
  s.answer source .counters object [.counters s.countersReport] fun t =>
    if yes clear then t.count fun _ => Counters.zero else t

/-- QUERY_COUNTERS. -/
def execQueryCounters (source : Member) (object clear : Byte) (s : State) : Host.Outcome State Fault Refusal :=
  .next (s.whenActing source (State.actQueryCounters source object clear))

end Sys2Proof.Machine
end

