-- ==== Sys2Proof/Machine/Clock.lean ====
section
/-! DEFINITION. Clock and Start (chapter 11): power reset, the profile, word-clock lock and the passing of periods, NODE RESET,
the reference event and the local input ports. -/

namespace Sys2Proof.Machine

open Sys2Proof

/-! ### Power reset (R168) -/

/-- R168: every block at its power-reset value, in RESET. The queue of waiting commands is the model's own and stands. -/
def State.powerReset (s : State) : State := { State.reset with pending := s.pending }

/-- POWER_RESET: it leads to RESET from every state. -/
def execPowerReset (s : State) : Host.Outcome State Fault Refusal := .next s.powerReset

/-- R168: at the release every block takes its power-reset values and the start straps give the member number. -/
def State.released (straps : Member) (s : State) : State :=
  { s.powerReset with clock.start := .loading, clock.member := straps }

/-- POWER_RESET_RELEASE. -/
def execPowerResetRelease (straps : Member) (s : State) : Host.Outcome State Fault Refusal :=
  .next (if s.clock.start = .reset then s.released straps else s)

/-! ### The profile (R169, R63) -/

/-- R63: one entry judged against the anchors already accepted. -/
def acceptEntry (anchors : List Anchor) (e : AnchorEntry) : Option Anchor :=
  if h : e.lane < 64 ∧ e.slot < 32 then
    if anchors.any fun a => a.lane.val == e.lane || a.slot.val == e.slot then none
    else some (Anchor.initial ⟨e.lane, h.1⟩ ⟨e.slot, h.2⟩ (clampLevel e.level))
  else none

/-- R63: the anchors of the entries in list order. -/
def acceptEntries (entries : List AnchorEntry) : List Anchor :=
  entries.foldl (fun anchors e => match acceptEntry anchors e with
    | some a => anchors ++ [a]
    | none => anchors) []

/-- R169: a profile taken, the anchors it sets, and how many times PROFILE FAULT is latched. -/
structure ProfileLoad where
  profile : Profile
  anchors : List Anchor
  faults : Nat
deriving DecidableEq, Repr

/-- R63, R169: PROFILE FAULT is latched once for each ignored entry, and once for entries left untaken. -/
def loadFaults (stored taken accepted : Nat) : Nat := (taken - accepted) + (if taken < stored then 1 else 0)

/-- R169: the profile of the memory's content, or the default profile with one PROFILE FAULT. -/
def loadProfile (memory : Option (List Byte)) : ProfileLoad :=
  match memory with
  | some bytes =>
    if goodProfile bytes then
      let anchors := acceptEntries (readEntries bytes)
      { profile := readProfile bytes, anchors
        faults := loadFaults (byteAt bytes 14).toNat (readEntries bytes).length anchors.length }
    else { profile := Profile.default, anchors := [], faults := 1 }
  | none => { profile := Profile.default, anchors := [], faults := 1 }

/-- R169: the end of the profile read. The strips' glide takes the profile's default glide (R24), and UNLOCKED is entered
with a lock count of 0. -/
def State.profileTaken (l : ProfileLoad) (s : State) : State :=
  let loaded := { s.mapStrips fun _ st => { st with glide := l.profile.glide } with
    clock.profile := l.profile
    clock.start := .unlocked
    clock.lockCount := 0
    outputs.anchors := l.anchors }
  (List.replicate l.faults NoticeEvent.profileFault).foldl (fun t e => t.latchNode e) loaded

/-- PROFILE_READ_END. -/
def execProfileReadEnd (memory : Option (List Byte)) (s : State) : Host.Outcome State Fault Refusal :=
  .next (if s.clock.start = .loading then s.profileTaken (loadProfile memory) else s)

/-! ### The passing of periods -/

/-- R7, R171: a missing arrival is counted, and in PASSING it sets the good-arrival count to 0. -/
def State.missed (s : State) : State :=
  { s.count Counters.addMissing with
    clock.goodArrivals := if s.clock.start = .passing then 0 else s.clock.goodArrivals }

/-- R7: at the close of a period in which no frame's arrival fell, the arrival is missing. A bad first arrival was counted
when it was checked. -/
def State.closePeriod (s : State) : State := if s.port.current = .awaiting then s.missed else s

/-- The hop buffer's content for an arrival: none where it is missing (R7). -/
def Arrival.entry : Arrival → Option HopEntry
  | .good e => some e
  | .awaiting | .bad => none

/-- R3: a period begins: the arrival of two periods before is due for emission, and none has arrived yet. -/
def LoopPort.open (p : LoopPort) : LoopPort :=
  { p with current := .awaiting, previous := p.current.entry, due := p.previous, transmit := none }

/-- A period begins: the aging and meter timers rise, each up to its interval (R125, R162), the hop buffer moves on, and no
event of the period has been taken. -/
def State.openPeriod (s : State) : State :=
  { s with
    clock.period := s.clock.period + 1
    clock.taken := Taken.none
    port := s.port.open
    census.agingCount := holdAt s.clock.profile.aging (s.census.agingCount + 1)
    reports.meterCount := holdAt s.clock.profile.meter (s.reports.meterCount + 1) }

/-! ### Word-clock lock (R170) -/

/-- R170: the 256th consecutive edge within the lock window: PASSING is entered with a good-arrival count of 0, and that edge
begins the first period to pass. -/
def State.gainLock (s : State) : State :=
  { s with clock.start := .passing, clock.lockCount := 256, clock.goodArrivals := 0 }.openPeriod

/-- R9, R170: the hop buffer emptied. The upstream member is kept (R10). -/
def LoopPort.emptied (p : LoopPort) : LoopPort := { LoopPort.powerReset with upstream := p.upstream }

/-- R170: loss of lock: hop buffer, contribution history and in-flight list are emptied, every anchor enters SILENT, the
output ports are silent, and everything else is kept. -/
def State.loseLock (s : State) : State :=
  { s with
    clock.start := .unlocked
    clock.lockCount := 0
    clock.goodArrivals := 0
    port := s.port.emptied
    adder := LaneAdder.zero
    message.inFlight := []
    message.quiet := none
    outputs.anchors := s.outputs.anchors.map Anchor.lossOfLock
    outputs.slots := silentSlots }

/-- R170: an edge within the window in UNLOCKED. -/
def State.lockEdge (s : State) : State :=
  if s.clock.lockCount + 1 < 256 then { s with clock.lockCount := s.clock.lockCount + 1 } else s.gainLock

/-- LOCK_GAINED: the 256th consecutive edge within the window. -/
def execLockGained (s : State) : Host.Outcome State Fault Refusal :=
  .next (if s.clock.start = .unlocked ∧ 255 ≤ s.clock.lockCount then s.gainLock else s)

/-- LOSS_OF_LOCK: a missing edge, or an edge outside the window, in PASSING or JOINED. -/
def execLossOfLock (s : State) : Host.Outcome State Fault Refusal :=
  .next (if s.periodsPass then s.loseLock else s)

/-- WORD_CLOCK_EDGE: in UNLOCKED it counts or clears the lock count; in PASSING and JOINED an edge within the window begins
the next period and any other is a loss of lock; in RESET and LOADING it is not counted (R168, R170). -/
def execWordClockEdge (e : Edge) (s : State) : Host.Outcome State Fault Refusal :=
  .next (match s.clock.start, e with
    | .reset, _ | .loading, _ => s
    | .unlocked, .within => s.lockEdge
    | .unlocked, .outside | .unlocked, .missing => { s with clock.lockCount := 0 }
    | .passing, .within | .joined, .within => s.begun.closePeriod.openPeriod
    | .passing, .outside | .passing, .missing | .joined, .outside | .joined, .missing => s.loseLock)

/-! ### NODE RESET (R171) and the quiet window (R89) -/

/-- R171: NODE RESET: PASSING with a good-arrival count of 0, and every block at its NODE RESET values. Member number,
profile, anchors, lock, hop buffer, upstream member, reference state and port framing are kept. -/
def State.nodeReset (s : State) : State :=
  { s with
    clock.start := .passing
    clock.goodArrivals := 0
    adder := LaneAdder.zero
    engine := StripEngine.reset s.clock.profile.glide
    cues := noCues
    message := MessageUnit.reset
    census := Census.reset
    groups := groupsReset
    units := unitsReset
    outputs.anchors := s.outputs.anchors.map Anchor.reset
    reports := Reports.reset }

/-- NODE_RESET: acted on only while JOINED, and never refused. -/
def execNodeReset (source : Member) (s : State) : Host.Outcome State Fault Refusal :=
  .next (s.whenActing source State.nodeReset)

/-- R89: the quiet window covers the period of the joining and the 39 after it. -/
def quietLength : Nat := 40

/-- R89: whether the quiet window is running. -/
def State.quietRunning (s : State) : Bool :=
  match s.message.quiet with
  | some p => decide (s.clock.period < p + quietLength)
  | none => false

/-- QUIET_WINDOW_END: 40 periods after the joining the quiet window is over. -/
def execQuietWindowEnd (s : State) : Host.Outcome State Fault Refusal :=
  .next (if s.message.quiet.isSome ∧ s.quietRunning = false then { s with message.quiet := none } else s)

/-! ### The reference event (R172, R173) -/

/-- R173: whether a rolling period at position `q` is a discontinuity. At the first period after power reset none is judged,
and at the first rolling period after a parked one the position may also equal the current position. -/
def State.discontinuous (q : Position) (s : State) : Bool :=
  s.clock.referenced && q != s.clock.position + 1#48 && (s.clock.rolling || q != s.clock.position)

/-- R105, R155: the change to parked, for the strips and the capture units, the units ahead of the strips or after them. -/
def State.parkIn (unitsFirst : Bool) (s : State) : State :=
  if unitsFirst then (s.unitsEnd s.clock.position condParked).stripsPark
  else s.stripsPark.unitsEnd s.clock.position condParked

/-- R105, R155: the transport change where the period's reading differs from the held state. -/
def State.transportChange (rolling unitsFirst : Bool) (s : State) : State :=
  if rolling = s.clock.rolling then s
  else if rolling then s.stripsRoll
  else s.parkIn unitsFirst

/-- R111, R150, R151: a rolling position event that follows on, for the cue lists and the capture units in either order. -/
def State.positionIn (unitsFirst : Bool) (q : Position) (s : State) : State :=
  if unitsFirst then (s.unitsPosition q).fireCues q else (s.fireCues q).unitsPosition q

/-- R113, R155: a discontinuity: every cue list is emptied, and captures end at the last position before the jump. -/
def State.jump (s : State) : State := s.emptyCues.unitsEnd s.clock.position condDiscontinuity

/-- R172: the position event of a period read as rolling or parked. At a parked one no cue fires and no unit samples. -/
def State.positionEvent (q : Position) (rolling unitsFirst : Bool) (s : State) : State :=
  if rolling then if s.discontinuous q then s.jump else s.positionIn unitsFirst q else s

/-- R172: one reference event: the reading, the transport change, then the position event. `parkUnitsFirst` and
`cueUnitsFirst` are the two orders the manual leaves open. The reference state takes the reading at the end; the events are
judged against the state held before it. -/
def State.referenceEvent (parkUnitsFirst cueUnitsFirst : Bool) (position : Position) (rolling valid : Bool)
    (s : State) : State :=
  let reading := rolling && valid
  let q := if valid then position else s.clock.position
  let faulted := if valid then s else s.latchNode .positionFault
  { (faulted.transportChange reading parkUnitsFirst).positionEvent q reading cueUnitsFirst with
    clock.rolling := reading
    clock.position := q
    clock.referenced := true
    clock.taken.referenced := true }

/-- The reference event of this period, its open orders by the free values. -/
def State.takeReference (position : Position) (rolling valid : Bool) (s : State) : State :=
  s.referenceEvent (Config.captureBeforePark s.clock.period) (Config.captureBeforeCues s.clock.period) position rolling valid

/-- Whether this period's reference event is still to be taken. -/
def State.referenceOpen (s : State) : Bool := s.periodsPass && !s.clock.taken.referenced

/-- REFERENCE_EVENT. -/
def execReferenceEvent (position : Position) (rolling valid : Bool) (s : State) : Host.Outcome State Fault Refusal :=
  .next (if s.referenceOpen then s.takeReference position rolling valid else s)

/-- R151: whether a rolling period at position `q` brings unit `u`'s keepalive count to 4800. -/
def State.keepaliveDue (u : UnitNo) (q : Position) (s : State) : Bool :=
  s.referenceOpen && !s.discontinuous q && (s.captureUnit u).state == .writing &&
    decide (4800 ≤ (s.captureUnit u).keepalive + 1)

/-- KEEPALIVE: the reference event, rolling at `q`, at which unit `u`'s keepalive count reaches 4800 and forces a record. -/
def execKeepalive (u : UnitNo) (q : Position) (s : State) : Host.Outcome State Fault Refusal :=
  .next (if s.keepaliveDue u q then s.takeReference q true true else s)

/-! ### Local input ports (R174) -/

/-- R174: a port's framing. -/
def State.setPort (p : PortNo) (framed : Bool) (s : State) : State :=
  { s with clock.ports := s.clock.ports.set p framed }

/-- INPUT_FRAMING_LOST: a framed port that does not deliver a complete frame, in a period that passes. -/
def execInputFramingLost (p : PortNo) (s : State) : Host.Outcome State Fault Refusal :=
  .next (if s.periodsPass ∧ s.clock.ports[p] = true then (s.setPort p false).latchNode .inputFault else s)

/-- INPUT_FRAMING_GAINED: a port delivers a complete frame, in a period that passes. -/
def execInputFramingGained (p : PortNo) (s : State) : Host.Outcome State Fault Refusal :=
  .next (if s.periodsPass then s.setPort p true else s)

end Sys2Proof.Machine
end

