-- ==== Sys2Proof/Machine/Messages.lean ====
section
/-! DEFINITION. The Message Unit (chapter 5): classification of an arriving slot, acceptance, acting, the node's own returning
messages, insertion, and the in-flight timeout. -/

namespace Sys2Proof.Machine

open Sys2Proof

/-! ### Acceptance and acting (R84, R85) -/

/-- R84: an enabled range matches a destination when both agree under its mask. -/
def AcceptRange.accepts (r : AcceptRange) (dest : Byte) : Bool := r.enabled && (dest &&& r.mask == r.base &&& r.mask)

/-- R84: acceptance by destination. -/
def State.accepts (dest : Byte) (s : State) : Bool :=
  dest == memberByte s.clock.member || dest == broadcast ||
    (decide (16 ≤ dest.toNat) && decide (dest.toNat ≤ 254) &&
      (s.clock.profile.range1.accepts dest || s.clock.profile.range2.accepts dest))

/-- R98: a QUERY by its item code; a code outside the table is malformed. -/
def State.actQuery (source : Member) (item object clear : Byte) (s : State) : State :=
  match item.toNat with
  | 1 => s.actQueryStrip source object
  | 2 => s.actQueryCues source object
  | 3 => s.actQueryCensus source object
  | 4 => s.actQueryGroup source object
  | 5 => s.actQueryCapture source object
  | 6 => s.actQueryAnchor source object
  | 7 => s.actQueryCounters source object clear
  | _ => s.refuseQuery source object

/-- R85: an accepted message acted on, by its kind code. Kinds not acted on, and codes outside the kind table, change
nothing. -/
def State.act (kind : Byte) (source : Member) (p : List Byte) (s : State) : State :=
  match kind.toNat with
  | 0x10 => s.actStripSet source (readStripSet p)
  | 0x11 => s.actPlace source (readPlace p)
  | 0x12 => s.actCue source (readCue p)
  | 0x13 => s.actCueFlush source (byteAt p 0)
  | 0x14 => s.actTouch source (byteAt p 0) (byteAt p 1)
  | 0x15 => s.actFader source (byteAt p 0) (field16 p 1)
  | 0x16 => s.actSolo source (byteAt p 0) (byteAt p 1)
  | 0x17 => s.actMuteGroup source (byteAt p 0) (byteAt p 1)
  | 0x18 => s.actCaptureStart source (readCaptureStart p)
  | 0x19 => s.actCaptureStop source (byteAt p 0)
  | 0x1A => s.actCaptureSuspend source (byteAt p 0)
  | 0x1B => s.actCaptureResume source (byteAt p 0)
  | 0x1C => s.actCaptureClear source (byteAt p 0)
  | 0x1D => s.actOutputSet source (readOutputSet p)
  | 0x1E => s.actQuery source (byteAt p 0) (byteAt p 1) (byteAt p 2)
  | 0x1F => s.actReportControl (readReportControl p)
  | 0x20 => s.actCensusSweep
  | 0x21 => s.nodeReset
  | 0x40 => s.actGroupClaim source (byteAt p 0) (byteAt p 1)
  | 0x41 => s.actGroupRelease source (byteAt p 0) (byteAt p 1)
  | 0x42 => s.actGroupDelta source (byteAt p 0) (byteAt p 1) (field16 p 2)
  | 0x43 => s.actSoloOn source (byteAt p 0)
  | 0x44 => s.actSoloRefresh source (byteAt p 0)
  | 0x45 => s.actSoloOff source (byteAt p 0)
  | _ => s

/-! ### Classification (R82) -/

/-- The cases of R82. -/
inductive SlotCase where
  | empty
  | own (m : Message)
  | stray (m : Message)
  | other (source : Member) (m : Message)
deriving DecidableEq, Repr

/-- R82: an arriving slot by the first case that applies. -/
def classify (member : Member) (slot : Option Message) : SlotCase :=
  match slot with
  | none => .empty
  | some m =>
    match memberOf m.source with
    | none => .stray m
    | some src => if src = member then .own m else if 15 ≤ m.hop.toNat then .stray m else .other src m

/-- R82: the message as forwarded, its hop count raised by one. -/
def Message.forwarded (m : Message) : Message := { m with hop := m.hop + 1#8 }

/-- R82: what the slot holds at the emission two periods later, before insertion is judged. -/
def SlotCase.emission : SlotCase → Option Message
  | .empty | .own _ | .stray _ => none
  | .other _ m => some m.forwarded

/-- R82, R91: whether the slot is offered for insertion. -/
def SlotCase.offered : SlotCase → Bool
  | .empty | .stray _ => true
  | .own _ | .other _ _ => false

/-! ### The node's own messages (R86 to R89) -/

/-- R87, R88: `n` entries retired as lost: each counted and latched. -/
def State.loseEntries : Nat → State → State
  | 0, s => s
  | n + 1, s => ((s.count Counters.addLost).latchNode .lost).loseEntries n

/-- R88: an own-source message returning while JOINED: the first entry of its kind is retired as delivered and every older
one as lost; without one, the quiet window judges it (R89). -/
def State.ownReturn (kind : Byte) (s : State) : State :=
  match s.message.inFlight.findIdx? fun e => e.kind == kind with
  | some i => { s with message.inFlight := s.message.inFlight.drop (i + 1) }.loseEntries i
  | none => if s.quietRunning then s else (s.count Counters.addClash).latchNode .memberClash

/-- R82 to R89: everything the classification of an arriving slot causes. -/
def State.takeSlot (c : SlotCase) (s : State) : State :=
  match c with
  | .empty => s
  | .own m => if s.joined then s.ownReturn m.kind else s
  | .stray _ => (s.count Counters.addStray).latchNode .stray
  | .other src m => if s.joined && s.accepts m.dest then s.act m.kind src m.payload.toList else s

/-! ### The timeout (R87) -/

/-- R87: how long an entry is held. -/
def flightLimit : Nat := 40

/-- R87: whether an entry's timeout has come. -/
def State.timedOut (s : State) (e : InFlight) : Bool := decide (e.period + flightLimit ≤ s.clock.period)

/-- R87: entries emitted 40 periods before are retired as lost. -/
def State.timeoutEntries (s : State) : State :=
  { s with message.inFlight := s.message.inFlight.filter fun e => !s.timedOut e }.loseEntries
    (s.message.inFlight.countP s.timedOut)

/-- INFLIGHT_TIMEOUT. -/
def execInflightTimeout (s : State) : Host.Outcome State Fault Refusal := .next s.timeoutEntries

/-! ### Insertion (R90) -/

/-- R87: the in-flight list holds up to 8 entries. -/
def flightSize : Nat := 8

/-- R90: the slot of the emission of this period, where it is offered and every condition of the insertion holds, with the
head of the queue. -/
def State.insertable (s : State) : Option (HopEntry × OutMsg) :=
  match s.port.due, s.message.outbound with
  | some e, m :: _ =>
    if s.joined ∧ s.port.transmit = none ∧ e.offered = true ∧ s.message.inFlight.length < flightSize then some (e, m)
    else none
  | _, _ => none

/-- R90: the head of the outbound queue is written into the slot, and its entry joins the in-flight list. -/
def State.insert (s : State) : State :=
  match s.insertable with
  | some (e, m) =>
    { s with
      port.due := some { e with slot := some (m.message s.clock.member), offered := false }
      message.outbound := s.message.outbound.drop 1
      message.inFlight := s.message.inFlight ++ [{ kind := m.body.kind, period := s.clock.period }] }
  | none => s

/-- INSERTION: the insertion of this period's emission. Where it is not taken as a command of its own, the emission takes
it. DESIGN CHOICE, unsafe (log entry 4): a NODE RESET taken between this command and the emission does not take the message back
out; the slot, already filled, leaves in that PASSING emission. -/
def execInsertion (s : State) : Host.Outcome State Fault Refusal := .next s.insert

end Sys2Proof.Machine
end

