-- ==== Sys2Proof/Machine/Loop.lean ====
section
/-! DEFINITION. The Loop Port and the Lane Adder (chapter 1): frame arrival, joining, and frame emission with its hand-off to
the anchors. -/

namespace Sys2Proof.Machine

open Sys2Proof

/-! ### Frame arrival (R3 to R7, R10, R23) -/

/-- R171: the good-arrival count that joins. -/
def joinCount : Nat := 96

/-- R89, R171: the change to JOINED, which starts the quiet window. -/
def State.join (s : State) : State :=
  { s with clock.start := .joined, message.quiet := some s.clock.period }

/-- R171: a good arrival in PASSING raises the good-arrival count, and the one that brings it to 96 joins. -/
def State.countGood (s : State) : State :=
  if s.clock.goodArrivals + 1 < joinCount then { s with clock.goodArrivals := s.clock.goodArrivals + 1 }
  else { s with clock.goodArrivals := joinCount }.join

/-- R3, R10: a good arrival is placed in the hop buffer with the slot its emission will carry, and sets the upstream
member. -/
def State.placeArrival (bytes : List Byte) (s : State) : State :=
  let c := classify s.clock.member (frameSlot bytes)
  { s with
    port.current := .good { lanes := frameLanes bytes, slot := c.emission, offered := c.offered }
    port.upstream := memberOf (byteAt bytes 1) }

/-- R3, R23, R171: a good arrival: hop buffer and upstream member, then the slot, then the good-arrival count where the node
was PASSING at the arrival. -/
def State.goodArrival (bytes : List Byte) (s : State) : State :=
  let taken := (s.placeArrival bytes).takeSlot (classify s.clock.member (frameSlot bytes))
  if s.clock.start = .passing then taken.countGood else taken

/-- R7: a bad first arrival: the arrival of the period is missing. -/
def State.badArrival (s : State) : State := { s with port.current := .bad }.missed

/-- R3, R6: a frame that arrives in a period that passes. -/
def State.arrival (bytes : List Byte) (s : State) : State :=
  if s.port.current ≠ .awaiting then s.count Counters.addSurplus
  else if goodFrame bytes then s.goodArrival bytes
  else s.badArrival

/-- Frames are taken in periods that pass; bytes that are no frame are discarded (R3, R9). -/
def State.hears (bytes : List Byte) (s : State) : Bool := s.periodsPass && isFrame bytes

/-- FRAME_ARRIVAL. -/
def execFrameArrival (bytes : List Byte) (s : State) : Host.Outcome State Fault Refusal :=
  .next (if s.hears bytes then s.arrival bytes else s)

/-- R171: whether an arrival is the good one that brings the good-arrival count to 96. -/
def State.joiningDue (bytes : List Byte) (s : State) : Bool :=
  s.hears bytes && s.clock.start == .passing && s.port.current == .awaiting && goodFrame bytes &&
    decide (joinCount ≤ s.clock.goodArrivals + 1)

/-- JOINING: the good arrival that makes the node JOINED. -/
def execJoining (bytes : List Byte) (s : State) : Host.Outcome State Fault Refusal :=
  .next (if s.joiningDue bytes then s.arrival bytes else s)

/-! ### Frame emission (R2, R8, R12, R17 to R19, R21) -/

/-- Whether this node anchors a lane. -/
def State.anchors (lane : LaneNo) (s : State) : Bool := s.outputs.anchors.any fun a => a.lane == lane

/-- R14: this node's contribution to lane `j` at a depth of the history. -/
def State.contribution (depth : Fin 31) (j : LaneNo) (s : State) : Int := s.adder.history[depth][j]

/-- R12, R18: a restarted lane: age 0 and the contribution at depth 0. -/
def State.restarted (j : LaneNo) (s : State) : Lane := .live 0 (s.contribution 0 j)

/-- R12 cases 2 and 3, R17: a lane of a good arrival that is not anchored, while JOINED. -/
def State.addLane (arrived : Lane) (j : LaneNo) (s : State) : Lane :=
  match arrived with
  | .orphan => .orphan
  | .live age value =>
    if h : age.val < 15 then
      .live ⟨age.val + 1, by omega⟩ (saturate (value + s.contribution ⟨2 * (age.val + 1), by omega⟩ j))
    else .orphan

/-- R21: a lane of a good arrival while PASSING. -/
def passLane (arrived : Lane) : Lane :=
  match arrived with
  | .orphan => .orphan
  | .live age value => if h : age.val < 15 then .live ⟨age.val + 1, by omega⟩ value else .orphan

/-- R8, R12, R21: lane `j` of this period's emission. -/
def State.emittedLane (j : LaneNo) (s : State) : Lane :=
  if s.joined && s.anchors j then s.restarted j
  else match s.port.due with
    | none => .orphan
    | some e => if s.joined then s.addLane e.lanes[j] j else passLane e.lanes[j]

/-- R2, R8, R9: this period's emission: a good arrival forwarded, or a regenerated frame with an empty slot. -/
def State.emission (s : State) : Frame :=
  { emitter := s.clock.member
    regenerated := s.port.due.isNone
    lanes := Vector.ofFn fun j => s.emittedLane j
    slot := s.port.due.bind HopEntry.slot }

/-- R19: the record handed to the Anchor Output of a lane. -/
def State.handOffOf (lane : LaneNo) (s : State) : HandOff :=
  match s.port.due with
  | none => .bad
  | some e =>
    match e.lanes[lane] with
    | .orphan => .bad
    | .live age value => .good value age

/-- R18, R19: each JOINED emission hands one record to every anchor. -/
def State.handOffs (s : State) : State :=
  if s.joined then s.stepAnchors (s.outputs.anchors.map fun a => a.handOff (s.handOffOf a.lane)) else s

/-- R2: the emission of one period, its history advanced: the insertion is judged (R90), the frame leaves, and the anchors take their records. -/
def State.emit (s : State) : State :=
  { s.insert.handOffs with port.transmit := some s.insert.emission }

/-- Whether this period's frame is still to be emitted. -/
def State.emissionOpen (s : State) : Bool := s.periodsPass && s.port.transmit.isNone

/-- FRAME_EMISSION: one frame in each period that passes. -/
def execFrameEmission (s : State) : Host.Outcome State Fault Refusal :=
  .next (if s.emissionOpen then s.begun.emit else s)

/-- R66: whether this period's emission hands anchor `m` its 48th consecutive bad period. -/
def State.faultDue (m : AnchorNo) (s : State) : Bool :=
  s.emissionOpen && s.joined && s.anchorIs m fun a => s.handOffOf a.lane == .bad && a.badRun == 47 && !a.faulted

/-- FAULT_BEGUN: the emission that hands anchor `m` its 48th consecutive bad period. -/
def execFaultBegun (m : AnchorNo) (s : State) : Host.Outcome State Fault Refusal :=
  .next (if s.faultDue m then s.begun.emit else s)

/-- R68: whether this period's emission completes anchor `m`'s candidate run. -/
def State.runDue (m : AnchorNo) (s : State) : Bool :=
  s.emissionOpen && s.joined && s.anchorIs m fun a => (a.completes (s.handOffOf a.lane)).isSome

/-- RUN_COMPLETED: the emission whose record brings anchor `m`'s candidate run to 48. -/
def execRunCompleted (m : AnchorNo) (s : State) : Host.Outcome State Fault Refusal :=
  .next (if s.runDue m then s.begun.emit else s)

end Sys2Proof.Machine
end

