-- ==== Sys2Proof/Machine/Dispatch.lean ====
section
/-! DEFINITION. The command dispatch: one arm for each constructor of Instr, one direct call of its meaning. -/

namespace Sys2Proof.Machine

open Sys2Proof

def exec (i : Instr) (s : State) : Host.Outcome State Fault Refusal :=
  match i with
  | .powerReset => Sys2Proof.Machine.execPowerReset s
  | .powerResetRelease straps => Sys2Proof.Machine.execPowerResetRelease straps s
  | .profileReadEnd memory => Sys2Proof.Machine.execProfileReadEnd memory s
  | .lockGained => Sys2Proof.Machine.execLockGained s
  | .lossOfLock => Sys2Proof.Machine.execLossOfLock s
  | .joining frame => Sys2Proof.Machine.execJoining frame s
  | .quietWindowEnd => Sys2Proof.Machine.execQuietWindowEnd s
  | .frameArrival frame => Sys2Proof.Machine.execFrameArrival frame s
  | .frameEmission => Sys2Proof.Machine.execFrameEmission s
  | .faultBegun anchor => Sys2Proof.Machine.execFaultBegun anchor s
  | .runCompleted anchor => Sys2Proof.Machine.execRunCompleted anchor s
  | .realignSwitch anchor => Sys2Proof.Machine.execRealignSwitch anchor s
  | .enterRunning anchor => Sys2Proof.Machine.execEnterRunning anchor s
  | .insertion => Sys2Proof.Machine.execInsertion s
  | .inflightTimeout => Sys2Proof.Machine.execInflightTimeout s
  | .historyAdvance => Sys2Proof.Machine.execHistoryAdvance s
  | .sampleProcessing samples => Sys2Proof.Machine.execSampleProcessing samples s
  | .swapCompletion strip samples => Sys2Proof.Machine.execSwapCompletion strip samples s
  | .outputProcessing => Sys2Proof.Machine.execOutputProcessing s
  | .referenceEvent position rolling valid => Sys2Proof.Machine.execReferenceEvent position rolling valid s
  | .keepalive unit position => Sys2Proof.Machine.execKeepalive unit position s
  | .packingTurn unit => Sys2Proof.Machine.execPackingTurn unit s
  | .drainEnd unit => Sys2Proof.Machine.execDrainEnd unit s
  | .heldEndOffer unit => Sys2Proof.Machine.execHeldEndOffer unit s
  | .agingEvent => Sys2Proof.Machine.execAgingEvent s
  | .leadLapse group => Sys2Proof.Machine.execLeadLapse group s
  | .censusClearing => Sys2Proof.Machine.execCensusClearing s
  | .clearingComplete => Sys2Proof.Machine.execClearingComplete s
  | .refreshWalkTurn => Sys2Proof.Machine.execRefreshWalkTurn s
  | .meterEvent => Sys2Proof.Machine.execMeterEvent s
  | .scannerVisit => Sys2Proof.Machine.execScannerVisit s
  | .inputFramingLost port => Sys2Proof.Machine.execInputFramingLost port s
  | .inputFramingGained port => Sys2Proof.Machine.execInputFramingGained port s
  | .stripSet source fields => Sys2Proof.Machine.execStripSet source fields s
  | .place source fields => Sys2Proof.Machine.execPlace source fields s
  | .muteGroup source group state => Sys2Proof.Machine.execMuteGroup source group state s
  | .cue source fields => Sys2Proof.Machine.execCue source fields s
  | .cueFlush source strip => Sys2Proof.Machine.execCueFlush source strip s
  | .touch source strip touched => Sys2Proof.Machine.execTouch source strip touched s
  | .fader source strip level => Sys2Proof.Machine.execFader source strip level s
  | .solo source strip state => Sys2Proof.Machine.execSolo source strip state s
  | .soloOn source strip => Sys2Proof.Machine.execSoloOn source strip s
  | .soloRefresh source strip => Sys2Proof.Machine.execSoloRefresh source strip s
  | .soloOff source strip => Sys2Proof.Machine.execSoloOff source strip s
  | .censusSweep source => Sys2Proof.Machine.execCensusSweep source s
  | .groupClaim source group strip => Sys2Proof.Machine.execGroupClaim source group strip s
  | .groupRelease source group strip => Sys2Proof.Machine.execGroupRelease source group strip s
  | .groupDelta source group strip change => Sys2Proof.Machine.execGroupDelta source group strip change s
  | .captureStart source fields => Sys2Proof.Machine.execCaptureStart source fields s
  | .captureStop source unit => Sys2Proof.Machine.execCaptureStop source unit s
  | .captureSuspend source unit => Sys2Proof.Machine.execCaptureSuspend source unit s
  | .captureResume source unit => Sys2Proof.Machine.execCaptureResume source unit s
  | .captureClear source unit => Sys2Proof.Machine.execCaptureClear source unit s
  | .outputSet source fields => Sys2Proof.Machine.execOutputSet source fields s
  | .reportControl source fields => Sys2Proof.Machine.execReportControl source fields s
  | .queryStrip source object clear => Sys2Proof.Machine.execQueryStrip source object clear s
  | .queryCues source object clear => Sys2Proof.Machine.execQueryCues source object clear s
  | .queryCensus source object clear => Sys2Proof.Machine.execQueryCensus source object clear s
  | .queryGroup source object clear => Sys2Proof.Machine.execQueryGroup source object clear s
  | .queryCapture source object clear => Sys2Proof.Machine.execQueryCapture source object clear s
  | .queryAnchor source object clear => Sys2Proof.Machine.execQueryAnchor source object clear s
  | .queryCounters source object clear => Sys2Proof.Machine.execQueryCounters source object clear s
  | .nodeReset source => Sys2Proof.Machine.execNodeReset source s
  | .wordClockEdge edge => Sys2Proof.Machine.execWordClockEdge edge s

end Sys2Proof.Machine
end

