-- ==== Sys2Proof/Safety.lean ====
section
/-! DEFINITION. What the manual promises of the node's state between steps, in the terms the claims use. Each predicate is
what one chapter says always holds; a step that starts in it is to end in it. -/

namespace Sys2Proof.Machine

open Sys2Proof

/-- R85: the node acts on a message of member `source`: it is JOINED, and the source is another member (R82). -/
abbrev State.Acts (s : State) (source : Member) : Prop := s.clock.start = .joined ∧ source ≠ s.clock.member

/-! ### Message Unit -/

/-- R87 and R92 to R95: the outbound queue holds at most 32 messages, at most one of them a solo message for each strip, a
claim or release for each group and lead strip, and a delta for each group and lead strip; the in-flight list holds at most
8 entries and is empty whenever the node is not JOINED. -/
abbrev State.QueuesSound (s : State) : Prop :=
  s.message.outbound.length ≤ 32 ∧
  (∀ n : StripNo, s.message.outbound.countP (OutMsg.isSolo n) ≤ 1) ∧
  (∀ (g : GroupNo) (n : StripNo), s.message.outbound.countP (OutMsg.isLead g n) ≤ 1) ∧
  (∀ (g : GroupNo) (n : StripNo), s.message.outbound.countP (OutMsg.isDelta g n) ≤ 1) ∧
  s.message.inFlight.length ≤ 8 ∧
  (s.clock.start ≠ .joined → s.message.inFlight = [])

/-! ### Cue Store -/

/-- The ranges of a cue's level and ramp (section 6.5). -/
abbrev Cue.inRange (c : Cue) : Prop := -1440 ≤ c.level ∧ c.level ≤ 120 ∧ 1 ≤ c.ramp ∧ c.ramp ≤ 48000

/-- R106: a strip's cue list never holds more than 16 cues, and stands in strictly increasing position order. -/
abbrev State.CuesSound (s : State) : Prop :=
  ∀ n : StripNo, (s.cueList n).length ≤ 16 ∧ (s.cueList n).Pairwise (fun c d => c.position < d.position) ∧
    ∀ c ∈ s.cueList n, c.inRange

/-! ### Strip Engine -/

/-- R44, R45: the ramp target of every strip is what its inputs give it now. -/
abbrev State.TargetsSound (s : State) : Prop :=
  ∀ n : StripNo, (s.strip n).ramp.target = (s.strip n).target s.census.soloActive s.engine.activeMutes

/-- R46: the five ramp fields: the three coefficients in range, the applied one between start and target, the step within the
length, and the applied coefficient at the target once the ramp is complete. -/
abbrev Ramp.Sound (longest : Nat) (r : Ramp) : Prop :=
  r.start ≤ 16697825 ∧ r.target ≤ 16697825 ∧ r.length ≤ longest ∧ r.step ≤ r.length ∧
  min r.start r.target ≤ r.applied ∧ r.applied ≤ max r.start r.target ∧ (r.step = r.length → r.applied = r.target)

/-- R24, R36: a placement: at most eight taps on distinct lanes, with tap coefficients up to 32768. -/
abbrev placementSound (taps : List Tap) : Prop :=
  taps.length ≤ 8 ∧ (taps.map Tap.lane).Nodup ∧ ∀ t ∈ taps, t.coef ≤ 32768

/-- R24: a staged placement: one to four taps. -/
abbrev stagedSound (taps : List Tap) : Prop := taps ≠ [] ∧ taps.length ≤ 4 ∧ placementSound taps

/-- R24, R58: every field of a strip record within its range, incoming placement present exactly while swap pending is yes, and
latched only in LATCH (R105). -/
abbrev Strip.Sound (st : Strip) : Prop :=
  (-200 ≤ st.trim ∧ st.trim ≤ 200) ∧ (-1440 ≤ st.live ∧ st.live ≤ 120) ∧ (-1440 ≤ st.auto ∧ st.auto ≤ 120) ∧
  (-400 ≤ st.offset ∧ st.offset ≤ 400) ∧ (48 ≤ st.glide ∧ st.glide ≤ 48000) ∧
  placementSound st.placement ∧ (∀ taps ∈ st.staged, stagedSound taps) ∧ (∀ taps ∈ st.incoming, placementSound taps) ∧
  (st.incoming.isSome = st.swapPending) ∧ (st.latched = true → st.mode = .latch) ∧
  st.ramp.Sound 48000 ∧ st.peak ≤ 33395650

/-- R24, R106: every strip record within its ranges, and the cues that will write into them too. The profile's glide (R169) is
what a NODE RESET returns the strips' to. -/
abbrev State.StripsSound (s : State) : Prop :=
  (∀ n : StripNo, (s.strip n).Sound) ∧ (∀ n : StripNo, ∀ c ∈ s.cueList n, c.inRange) ∧
  (48 ≤ s.clock.profile.glide ∧ s.clock.profile.glide ≤ 48000)

/-! ### Lane Adder -/

/-- R14: a contribution of this node. -/
abbrev contributionInRange (x : Int) : Prop := -1068660800 ≤ x ∧ x ≤ 1068660800

/-- R14, R60: every entry of the history, and every sum handed over, lies within the range of one node's contribution. -/
abbrev LaneAdder.Sound (a : LaneAdder) : Prop :=
  (∀ (d : Fin 31) (j : LaneNo), contributionInRange a.history[d][j]) ∧ ∀ j : LaneNo, contributionInRange a.handed[j]

/-! ### Census -/

/-- R119: solo active is what its two terms make it, the local solo count is the number of soloed strips (R118), and each role
is held by one table (R121). -/
abbrev State.SoloSound (s : State) : Prop :=
  s.census.soloActive = s.soloWanted ∧
  s.census.localSolo = allStrips.countP (fun n => (s.strip n).soloed) ∧
  s.census.roles.current ≠ s.census.roles.next ∧ s.census.roles.next ≠ s.census.roles.empty ∧
  s.census.roles.current ≠ s.census.roles.empty

/-- The link entries a home uses. -/
def homeLinks : Option HomeEntry → List (Fin 64)
  | none => []
  | some h => h.chain.map ChainLink.entry

/-- R121: the link entries a table uses, in home-index order. -/
def CensusTable.links (t : CensusTable) : List (Fin 64) := t.home.toList.flatMap homeLinks

/-- R121, R120: the link entries in use and the free stack are together the 64 entries, each once; every key stands at its own
home index, at most once, and none is a key of this node. -/
abbrev CensusTable.Sound (own : Member) (t : CensusTable) : Prop :=
  (t.links ++ t.free).Perm (List.finRange 64) ∧
  (∀ i : Fin 128, (homeKeys t.home[i]).Nodup ∧ ∀ k ∈ homeKeys t.home[i], k.home = i ∧ k.member ≠ own)

/-- R127, R128: the home entries clearing has already taken are vacant in the Empty table; without clearing, all are. -/
abbrev State.emptyCleared (s : State) : Prop :=
  ∀ i : Fin 128, (∀ next ∈ s.census.clearing, i < next) → (s.table s.census.roles.empty).home[i] = none

/-- R121, R127 to R129: the three tables are sound, the roles are held by one table each, what clearing has taken is vacant, and
a rotation is held only while clearing is in progress. -/
abbrev State.CensusSound (s : State) : Prop :=
  (∀ i : Fin 3, (s.table i).Sound s.clock.member) ∧
  (s.census.roles.current ≠ s.census.roles.next ∧ s.census.roles.next ≠ s.census.roles.empty ∧
    s.census.roles.current ≠ s.census.roles.empty) ∧
  s.emptyCleared ∧ (s.census.held = true → s.census.clearing.isSome = true)

/-! ### Group Table -/

/-- R134: a lead that names a local strip names a strip that is a member of that group and is touched in a mode other than READ. -/
abbrev State.leadSound (s : State) (g : GroupNo) : Prop :=
  ∀ k ∈ (s.group g).lead, k.member = s.clock.member →
    (s.strip k.strip).linkGroup = some g ∧ (s.strip k.strip).touched = true ∧ (s.strip k.strip).mode ≠ .read

/-- R134: the silent count is 0 whenever the lead is none or local, and reads 0 or 1 between aging events. -/
abbrev State.silentSound (s : State) (g : GroupNo) : Prop :=
  (s.group g).silent ≤ 1 ∧ ((s.group g).lead = none ∨ s.leadIsLocal g = true → (s.group g).silent = 0)

/-- R134: every entry of the Group Table is sound. -/
abbrev State.LeadsSound (s : State) : Prop := ∀ g : GroupNo, s.leadSound g ∧ s.silentSound g

/-! ### Capture Units -/

/-- R147: the states in which a unit is bound. -/
def UnitState.isBound : UnitState → Bool
  | .armed | .writing | .suspended => true
  | .idle | .draining | .ended => false

/-- R147, R148, R153: a unit is bound exactly in ARMED, WRITING and SUSPENDED, its buffer holds at most 16 records, its
keepalive count stays within 4800, an IDLE or ENDED unit's buffer is empty, and an ENDED unit has its end record. -/
abbrev CaptureUnit.Sound (c : CaptureUnit) : Prop :=
  (c.bound.isSome = c.state.isBound) ∧ c.buffer.length ≤ 16 ∧ c.keepalive ≤ 4800 ∧
  (c.state = .idle ∨ c.state = .armed ∨ c.state = .ended → c.buffer = []) ∧
  (c.state = .ended → c.endRecord.isSome = true)

/-- R148: a strip is bound to at most one unit and a unit to at most one strip, and both sides say so. -/
abbrev State.CapturesSound (s : State) : Prop :=
  (∀ u : UnitNo, (s.captureUnit u).Sound) ∧
  ∀ (u : UnitNo) (n : StripNo), (s.captureUnit u).bound = some n ↔ (s.strip n).binding = some u

/-! ### Anchor Outputs -/

/-- R69 to R71: the output states in which an age is settled. -/
def OutputState.isSettled : OutputState → Bool
  | .rising | .running | .realignDown | .realignUp => true
  | .silent | .settling => false

/-- R64: what holds of an anchor: an age is settled exactly from RISING on and pending exactly in REALIGN DOWN, the bad run and
the candidate run hold at 48, faulted goes with a bad run of 48 (R66), the master target is R72's, a ramp is in progress in the
states that wait for it (R71, R73), and none is in SILENT or SETTLING. -/
abbrev Anchor.Sound (a : Anchor) : Prop :=
  (a.settledAge.isSome = a.state.isSettled) ∧ (a.pendingAge.isSome = decide (a.state = .realignDown)) ∧
  a.badRun ≤ 48 ∧ (a.faulted = decide (a.badRun = 48)) ∧ a.candidateRun ≤ 48 ∧
  (a.candidateAge.isSome = decide (0 < a.candidateRun)) ∧
  (-1440 ≤ a.level ∧ a.level ≤ 120) ∧ (-1440 ≤ a.profileLevel ∧ a.profileLevel ≤ 120) ∧
  a.ramp.Sound 240 ∧ a.ramp.target = a.target ∧
  (a.state = .rising ∨ a.state = .realignDown ∨ a.state = .realignUp → a.ramp.inProgress = true) ∧
  (a.state = .silent ∨ a.state = .settling → a.ramp.inProgress = false ∧ a.ramp.applied = 0) ∧
  a.peak ≤ 8388608

/-- R63, R64, R69, R78: at most 32 anchors on lanes and slots of their own, each sound, and all SILENT while not JOINED; every
output slot carries a 24-bit sample (R75). -/
abbrev State.AnchorsSound (s : State) : Prop :=
  s.outputs.anchors.length ≤ 32 ∧ (s.outputs.anchors.map Anchor.lane).Nodup ∧ (s.outputs.anchors.map Anchor.slot).Nodup ∧
  (∀ a ∈ s.outputs.anchors, a.Sound) ∧
  (s.clock.start ≠ .joined → ∀ a ∈ s.outputs.anchors, a.state = .silent) ∧
  ∀ slot : SlotNo, -8388608 ≤ s.outputs.slots[slot] ∧ s.outputs.slots[slot] ≤ 8388607

/-! ### Arrivals and commands -/

/-- R3, R4: a good frame's arrival would be the arrival of the current period. -/
abbrev State.AwaitsGood (s : State) (bytes : List Byte) : Prop :=
  s.periodsPass = true ∧ s.port.current = .awaiting ∧ isFrame bytes = true ∧ goodFrame bytes = true

/-- R3, R10: the state with a good frame in the hop buffer, its slot leaving as `slot`, and its emitter as the upstream member. -/
abbrev State.placed (slot : Option Message) (offered : Bool) (bytes : List Byte) (s : State) : State :=
  { s with
    port.current := .good { lanes := frameLanes bytes, slot, offered }
    port.upstream := memberOf (byteAt bytes 1) }

/-- R85, R100: the command that an accepted message of the given kind and payload is, for the kinds an SN32 acts on. A QUERY is
the command of its item. -/
def commandOf (source : Member) (kind : Byte) (p : List Byte) : Option Instr :=
  match kind.toNat with
  | 0x10 => some (.stripSet source (readStripSet p))
  | 0x11 => some (.place source (readPlace p))
  | 0x12 => some (.cue source (readCue p))
  | 0x13 => some (.cueFlush source (byteAt p 0))
  | 0x14 => some (.touch source (byteAt p 0) (byteAt p 1))
  | 0x15 => some (.fader source (byteAt p 0) (field16 p 1))
  | 0x16 => some (.solo source (byteAt p 0) (byteAt p 1))
  | 0x17 => some (.muteGroup source (byteAt p 0) (byteAt p 1))
  | 0x18 => some (.captureStart source (readCaptureStart p))
  | 0x19 => some (.captureStop source (byteAt p 0))
  | 0x1A => some (.captureSuspend source (byteAt p 0))
  | 0x1B => some (.captureResume source (byteAt p 0))
  | 0x1C => some (.captureClear source (byteAt p 0))
  | 0x1D => some (.outputSet source (readOutputSet p))
  | 0x1E =>
    match (byteAt p 0).toNat with
    | 1 => some (.queryStrip source (byteAt p 1) (byteAt p 2))
    | 2 => some (.queryCues source (byteAt p 1) (byteAt p 2))
    | 3 => some (.queryCensus source (byteAt p 1) (byteAt p 2))
    | 4 => some (.queryGroup source (byteAt p 1) (byteAt p 2))
    | 5 => some (.queryCapture source (byteAt p 1) (byteAt p 2))
    | 6 => some (.queryAnchor source (byteAt p 1) (byteAt p 2))
    | 7 => some (.queryCounters source (byteAt p 1) (byteAt p 2))
    | _ => none
  | 0x1F => some (.reportControl source (readReportControl p))
  | 0x20 => some (.censusSweep source)
  | 0x21 => some (.nodeReset source)
  | 0x40 => some (.groupClaim source (byteAt p 0) (byteAt p 1))
  | 0x41 => some (.groupRelease source (byteAt p 0) (byteAt p 1))
  | 0x42 => some (.groupDelta source (byteAt p 0) (byteAt p 1) (field16 p 2))
  | 0x43 => some (.soloOn source (byteAt p 0))
  | 0x44 => some (.soloRefresh source (byteAt p 0))
  | 0x45 => some (.soloOff source (byteAt p 0))
  | _ => none

end Sys2Proof.Machine
end

