-- ==== Sys2Proof/Certificates/Slice0/Obligations.lean ====
section
/-! DEFINITION. The statements about the model, for the provers. Each docstring names the rule of spec/ it comes from; a
statement that rests on a choice of the model's says so and names the log entry. -/

open Sys2Proof Sys2Proof.Machine

/-! ### The queue of commands -/

/-- The model's own queue (log entry 5): a step takes the command at the front and runs it with the queue's rest; with no command
waiting the block idles. -/
def Obligations.StepRunsFrontCommand : Prop :=
  (∀ (c : Instr) (rest : List Instr) (s : State),
    step { s with pending := c :: rest } = exec c { s with pending := rest }) ∧
  ∀ s : State, s.pending = [] → step s = .next s

/-- No rule of the manual stops the part (log entry 9): every command answers a next state, and none touches the queue. -/
def Obligations.EveryCommandAnswersAndKeepsTheQueue : Prop :=
  ∀ (c : Instr) (s : State), ∃ t, exec c s = .next t ∧ t.pending = s.pending

/-! ### Resets and start -/

/-- The values that the reset columns of the chapters give (R10, R14, R24, R34, R46, R99, R106, R121, R125, R134, R147, R164 to
R168), read in the state right after power reset. The strips' glide is the default profile's (log entry 11). -/
def Obligations.ResetLeavesTheSpecValues : Prop :=
  State.reset.clock.start = .reset ∧ State.reset.clock.rolling = false ∧ State.reset.clock.position = 0#48 ∧
  State.reset.clock.referenced = false ∧ State.reset.clock.goodArrivals = 0 ∧
  (∀ p : PortNo, State.reset.clock.ports[p] = false) ∧ State.reset.port.upstream = none ∧
  (∀ (d : Fin 31) (j : LaneNo), State.reset.adder.history[d][j] = 0) ∧
  (∀ n : StripNo, State.reset.strip n =
    { trim := 0, mode := .manual, live := -1440, auto := -1440, touched := false, latched := false, linkGroup := none
      offset := 0, cut := false, mutes := 0#16, soloed := false, safe := false, glide := 12000, placement := []
      staged := none, incoming := none, swapPending := false
      ramp := { applied := 0, start := 0, target := 0, length := 0, step := 0 }, peak := 0, binding := none }) ∧
  State.reset.engine.activeMutes = 0#16 ∧ (∀ n : StripNo, State.reset.cueList n = []) ∧
  State.reset.message =
    { outbound := [], inFlight := [], quiet := none
      counters := { stray := 0, lost := 0, outboundDrop := 0, clash := 0, missing := 0, surplus := 0, staleDelta := 0
                    censusOverflow := 0 } } ∧
  State.reset.census.roles = { current := 0, next := 1, empty := 2 } ∧
  (∀ (i : Fin 3) (h : Fin 128), (State.reset.table i).home[h] = none) ∧
  (∀ i : Fin 3, (State.reset.table i).free = List.finRange 64) ∧
  State.reset.census.clearing = none ∧ State.reset.census.held = false ∧ State.reset.census.agingCount = 0 ∧
  (∀ n : StripNo, State.reset.census.marks[n] = false) ∧ State.reset.census.localSolo = 0 ∧
  State.reset.census.soloActive = false ∧
  (∀ g : GroupNo, State.reset.group g = { lead := none, silent := 0, mark := false }) ∧
  (∀ u : UnitNo, State.reset.captureUnit u =
    { state := .idle, bound := none
      settings := { strip := 0, punchIn := 0#48, punchOut := 0#48, threshold := 0, noticeMask := 0#8, recordMember := 0 }
      buffer := [], marks := 0#8, lastLevel := none, keepalive := 0, recordsSent := 0, overruns := 0, conditions := 0#8
      endRecord := none, lastPosition := none }) ∧
  State.reset.reports.meterCount = 0 ∧ State.reset.reports.metersOn = true ∧ State.reset.reports.inhibited = false ∧
  State.reset.reports.scan = 0 ∧ (∀ src : SourceNo, State.reset.reports.vectors[src] = { events := 0#24, count := 0 })

/-- R168: power reset leads to RESET from every state, with every block at its power-reset values; at its release, taken in
RESET, the node enters LOADING and the straps give the member number. That the blocks show those values already in RESET is the
model's choice (log entry 11); the queue of commands is the model's own. -/
def Obligations.PowerResetAndReleaseEnterLoading : Prop :=
  (∀ s : State, exec .powerReset s = .next { State.reset with pending := s.pending }) ∧
  ∀ (straps : Member) (s : State),
    (s.clock.start = .reset →
      exec (.powerResetRelease straps) s =
        .next { State.reset with clock.start := .loading, clock.member := straps, pending := s.pending }) ∧
    (s.clock.start ≠ .reset → exec (.powerResetRelease straps) s = .next s)

/-- R169: a profile read with a bad check code, another version or no answer takes the default profile, written out here, with
no anchor and PROFILE FAULT latched once; so does a memory that ends before its own check code (log entry 16). One with a good check
code and version 1 is taken, each numeric field clamped into its range, with the anchors R63 accepts of the first 32 entries, and
PROFILE FAULT is latched once for each of those entries that is ignored and once for entries beyond them. Either way the node enters
UNLOCKED with a lock count of 0 (R168), the strips take the profile's default glide (R24, log entry 11), and the rest stands. -/
def Obligations.ProfileReadTakesTheProfileOrTheDefault : Prop :=
  (∀ (bytes : List Byte) (n : Nat), n = (byteAt bytes 14).toNat →
    (goodProfile bytes = true ↔ 17 + 4 * n ≤ bytes.length ∧
      crc16 (bytes.take (15 + 4 * n)) = field16 bytes (15 + 4 * n) ∧ byteAt bytes 0 = 1#8)) ∧
  (∀ (memory : Option (List Byte)) (s : State), s.clock.start = .loading →
    (∀ bytes ∈ memory, goodProfile bytes = false) →
    exec (.profileReadEnd memory) s = .next (({ s.mapStrips fun _ st => { st with glide := 12000 } with
      clock.profile :=
        { reportMember := 0, range1 := { base := 0#8, mask := 0#8, enabled := false }
          range2 := { base := 0#8, mask := 0#8, enabled := false }, aging := 96000, latency := 48, meter := 4800
          glide := 12000 }
      clock.start := .unlocked
      clock.lockCount := 0
      outputs.anchors := [] }).latchNode .profileFault)) ∧
  ∀ (bytes : List Byte) (entries : List AnchorEntry) (n faults : Nat) (s : State), s.clock.start = .loading →
    goodProfile bytes = true → n = (byteAt bytes 14).toNat →
    entries = ((List.range (min 32 n)).map fun e =>
      { lane := (byteAt bytes (15 + 4 * e)).toNat, slot := (byteAt bytes (16 + 4 * e)).toNat
        level := (field16 bytes (17 + 4 * e)).toInt }) →
    faults = (min 32 n - (acceptEntries entries).length) + (if 32 < n then 1 else 0) →
    ∃ t, exec (.profileReadEnd (some bytes)) s = .next t ∧
      t = { s with
        clock := t.clock
        engine.strips := t.engine.strips
        outputs.anchors := acceptEntries entries
        reports.vectors := t.reports.vectors } ∧
      t.clock = { s.clock with
        start := .unlocked, lockCount := 0
        profile :=
          { reportMember := ⟨min 15 (byteAt bytes 1).toNat, by omega⟩
            range1 := { base := byteAt bytes 2, mask := byteAt bytes 3, enabled := byteAt bytes 4 != 0#8 }
            range2 := { base := byteAt bytes 5, mask := byteAt bytes 6, enabled := byteAt bytes 7 != 0#8 }
            aging := 48000 * max 1 (min 8 (byteAt bytes 8).toNat)
            latency := max 34 (min 240 (byteAt bytes 9).toNat)
            meter := max 480 (min 48000 (field16 bytes 10).toNat)
            glide := max 48 (min 48000 (field16 bytes 12).toNat) } } ∧
      (∀ k : StripNo, t.strip k = { s.strip k with glide := max 48 (min 48000 (field16 bytes 12).toNat) }) ∧
      (∀ src : SourceNo, src ≠ 64 → t.reports.vectors[src] = s.reports.vectors[src]) ∧
      t.reports.vectors[nodeSource] =
        if faults = 0 then s.reports.vectors[nodeSource]
        else
          { events := s.reports.vectors[nodeSource].events ||| NoticeEvent.profileFault.set
            count := min 255 (s.reports.vectors[nodeSource].count + faults) }

/-- R63: which anchor entries are accepted, in list order. An entry with a lane of 0 to 63 and a slot of 0 to 31, neither held by an
anchor accepted before it, becomes the next anchor, SILENT with its master level clamped into −1440…+120; any other entry is ignored.
So whatever the entries hold, the accepted anchors are at most 32, on lanes of their own and output slots of their own. -/
def Obligations.AcceptedAnchorsHaveLanesAndSlotsOfTheirOwn : Prop :=
  acceptEntries [] = [] ∧
  ∀ entries : List AnchorEntry,
    (∀ (e : AnchorEntry) (lane : LaneNo) (slot : SlotNo), e.lane = lane.val → e.slot = slot.val →
      (∀ a ∈ acceptEntries entries, a.lane ≠ lane ∧ a.slot ≠ slot) →
      acceptEntries (entries ++ [e]) =
        acceptEntries entries ++ [Anchor.initial lane slot (max (-1440) (min 120 e.level))]) ∧
    (∀ e : AnchorEntry,
      64 ≤ e.lane ∨ 32 ≤ e.slot ∨ (∃ a ∈ acceptEntries entries, a.lane.val = e.lane ∨ a.slot.val = e.slot) →
      acceptEntries (entries ++ [e]) = acceptEntries entries) ∧
    (acceptEntries entries).length ≤ min 32 entries.length ∧
    ((acceptEntries entries).map Anchor.lane).Nodup ∧ ((acceptEntries entries).map Anchor.slot).Nodup ∧
    ∀ a ∈ acceptEntries entries, a = Anchor.initial a.lane a.slot a.level ∧ -1440 ≤ a.level ∧ a.level ≤ 120 ∧
      ∃ e ∈ entries, e.lane = a.lane.val ∧ e.slot = a.slot.val ∧ a.level = max (-1440) (min 120 e.level)

/-- R168, R170, R171: in RESET and LOADING no edge is counted; in UNLOCKED an edge outside the lock window or a missing edge sets
the lock count back to 0, and an edge within it raises the count by one, up to the 256th, which gains lock: PASSING with a
good-arrival count of 0, and the first period to pass begins, in which the aging and meter timers rise (R125, R162; what the opening
of a period does is log entry 1). LOCK_GAINED is that edge (log entry 2). -/
def Obligations.LockCountFollowsTheEdgesToLock : Prop :=
  ∀ s : State,
    (s.clock.start = .reset ∨ s.clock.start = .loading → ∀ e : Edge, exec (.wordClockEdge e) s = .next s) ∧
    (s.clock.start = .unlocked →
      exec (.wordClockEdge .outside) s = .next { s with clock.lockCount := 0 } ∧
      exec (.wordClockEdge .missing) s = .next { s with clock.lockCount := 0 } ∧
      (s.clock.lockCount < 255 →
        exec (.wordClockEdge .within) s = .next { s with clock.lockCount := s.clock.lockCount + 1 }) ∧
      (s.clock.lockCount = 255 →
        exec .lockGained s = exec (.wordClockEdge .within) s ∧
        exec .lockGained s = .next { s with
          clock.start := .passing
          clock.lockCount := 256
          clock.goodArrivals := 0
          clock.period := s.clock.period + 1
          clock.taken := Taken.none
          port := { s.port with current := .awaiting, previous := s.port.current.entry, due := s.port.previous
                                transmit := none }
          census.agingCount := min s.clock.profile.aging (s.census.agingCount + 1)
          reports.meterCount := min s.clock.profile.meter (s.reports.meterCount + 1) }))

/-- R9, R14, R64, R78, R87, R170: a missing edge, or an edge outside the window, in PASSING or JOINED is a loss of lock: UNLOCKED
with a lock count of 0; the hop buffer, the history and the in-flight list are emptied; every anchor is SILENT with all but its
master level, operator mute and peak at its reset value; the output slots carry 0; all else is kept, the upstream member too. The
model's own: a missing-frame count not yet taken is not taken (log entry 1), the sums handed over read 0 (log entry 13), and the quiet
window's start is dropped (log entry 12). -/
def Obligations.LossOfLockKeepsAllButTheLoop : Prop :=
  ∀ s : State, s.clock.start = .passing ∨ s.clock.start = .joined →
    exec .lossOfLock s = .next { s with
      clock.start := .unlocked
      clock.lockCount := 0
      clock.goodArrivals := 0
      port := { upstream := s.port.upstream, current := .awaiting, previous := none, due := none, transmit := none }
      adder := { history := Vector.replicate 31 (Vector.replicate 64 0), handed := Vector.replicate 64 0 }
      message.inFlight := []
      message.quiet := none
      outputs.anchors := s.outputs.anchors.map fun a =>
        { Anchor.initial a.lane a.slot a.profileLevel with level := a.level, mute := a.mute, peak := a.peak }
      outputs.slots := Vector.replicate 32 0 } ∧
    exec (.wordClockEdge .missing) s = exec .lossOfLock s ∧ exec (.wordClockEdge .outside) s = exec .lossOfLock s

/-- R171: NODE RESET acted on: PASSING with a good-arrival count of 0 and every block at its reset values, which are those of
State.reset but for the profile's glide (R24) and the anchors' levels (R64); lock, profile, member number, hop buffer, upstream
member, reference state and port framing are kept. -/
def Obligations.NodeResetKeepsLockProfileAndHopBuffer : Prop :=
  ∀ (source : Member) (s : State), s.Acts source →
    exec (.nodeReset source) s = .next { s with
      clock.start := .passing
      clock.goodArrivals := 0
      adder := State.reset.adder
      engine := { strips := Vector.replicate 32 { State.reset.strip 0 with glide := s.clock.profile.glide }
                  activeMutes := 0#16 }
      cues := State.reset.cues
      message := State.reset.message
      census := State.reset.census
      groups := State.reset.groups
      units := State.reset.units
      outputs.anchors := s.outputs.anchors.map fun a => Anchor.initial a.lane a.slot a.profileLevel
      reports := State.reset.reports }

/-- R7, R14, R125, R162, R171: the edge that ends a period in PASSING or JOINED. A period without an arrival counts a missing frame,
and in PASSING discards the good-arrival count; then the next period opens: the timers rise up to their intervals and the hop
buffer moves on. `a` is the state the period's history advance leaves: an advance not yet taken is taken first. That one edge closes a
period and opens the next is the model's (log entry 1), as is the flag that says the advance is taken (log entry 3). -/
def Obligations.EdgeClosesAPeriodAndOpensTheNext : Prop :=
  ∀ s : State, s.clock.start = .passing ∨ s.clock.start = .joined → ∃ a, exec .historyAdvance s = .next a ∧
    exec (.wordClockEdge .within) s = .next { a with
      clock.goodArrivals := if s.clock.start = .passing ∧ s.port.current = .awaiting then 0 else s.clock.goodArrivals
      clock.period := s.clock.period + 1
      clock.taken := Taken.none
      port := { s.port with current := .awaiting, previous := s.port.current.entry, due := s.port.previous
                            transmit := none }
      message.counters.missing :=
        if s.port.current = .awaiting then min 65535 (s.message.counters.missing + 1) else s.message.counters.missing
      census.agingCount := min s.clock.profile.aging (s.census.agingCount + 1)
      reports.meterCount := min s.clock.profile.meter (s.reports.meterCount + 1) }

/-! ### Frames in -/

/-- R6: a frame whose arrival falls in a period that already has an arrival, good or bad, is discarded unchecked: the
surplus-frame counter rises by one, holding at 65535, and nothing else of the node changes. -/
def Obligations.SurplusArrivalIsOnlyCounted : Prop :=
  ∀ (bytes : List Byte) (s : State), s.periodsPass = true → s.port.current ≠ .awaiting → isFrame bytes = true →
    exec (.frameArrival bytes) s =
      .next { s with message.counters.surplus := min 65535 (s.message.counters.surplus + 1) }

/-- R4, R7, R171: a bad first arrival leaves the period without a usable arrival: the missing-frame counter rises, in PASSING the
good-arrival count returns to 0, and neither the upstream member nor anything else changes. Bytes that are no frame are discarded
(R3). -/
def Obligations.BadArrivalIsMissing : Prop :=
  ∀ (bytes : List Byte) (s : State), s.periodsPass = true →
    (isFrame bytes = false → exec (.frameArrival bytes) s = .next s) ∧
    (s.port.current = .awaiting → isFrame bytes = true → goodFrame bytes = false →
      exec (.frameArrival bytes) s = .next { s with
        port.current := .bad
        clock.goodArrivals := if s.clock.start = .passing then 0 else s.clock.goodArrivals
        message.counters.missing := min 65535 (s.message.counters.missing + 1) })

/-- R3, R10, R82, R83, R91: a good arrival while JOINED whose slot is empty, or holds a stray, or holds another member's message
that is not accepted. The frame enters the hop buffer with the slot its emission will carry, empty and offered for insertion, or
the message with its hop count raised; the upstream member is its emitter; a stray is counted and STRAY latched. -/
def Obligations.JoinedArrivalThatActsOnNothing : Prop :=
  ∀ (bytes : List Byte) (s : State), s.AwaitsGood bytes → s.clock.start = .joined →
    (frameSlot bytes = none → exec (.frameArrival bytes) s = .next (s.placed none true bytes)) ∧
    ∀ m, frameSlot bytes = some m → m.source ≠ memberByte s.clock.member →
      (16 ≤ m.source.toNat ∨ 15 ≤ m.hop.toNat →
        exec (.frameArrival bytes) s = .next ({ s.placed none true bytes with
          message.counters.stray := min 65535 (s.message.counters.stray + 1) }.latchNode .stray)) ∧
      (m.source.toNat < 16 → m.hop.toNat < 15 → s.accepts m.dest = false →
        exec (.frameArrival bytes) s = .next (s.placed (some { m with hop := m.hop + 1#8 }) false bytes))

/-- R82, R83, R86, R171: a good arrival while PASSING, below the count that joins: an own-source message is removed silently and
its slot not offered, a stray is counted, any other message is forwarded and not acted on; the good-arrival count rises by one. -/
def Obligations.PassingArrivalActsOnNothing : Prop :=
  ∀ (bytes : List Byte) (s : State), s.AwaitsGood bytes → s.clock.start = .passing → s.clock.goodArrivals < 95 →
    (frameSlot bytes = none →
      exec (.frameArrival bytes) s =
        .next { s.placed none true bytes with clock.goodArrivals := s.clock.goodArrivals + 1 }) ∧
    ∀ m, frameSlot bytes = some m →
      (m.source = memberByte s.clock.member →
        exec (.frameArrival bytes) s =
          .next { s.placed none false bytes with clock.goodArrivals := s.clock.goodArrivals + 1 }) ∧
      (m.source ≠ memberByte s.clock.member → 16 ≤ m.source.toNat ∨ 15 ≤ m.hop.toNat →
        exec (.frameArrival bytes) s = .next ({ s.placed none true bytes with
          clock.goodArrivals := s.clock.goodArrivals + 1
          message.counters.stray := min 65535 (s.message.counters.stray + 1) }.latchNode .stray)) ∧
      (m.source ≠ memberByte s.clock.member → m.source.toNat < 16 → m.hop.toNat < 15 →
        exec (.frameArrival bytes) s =
          .next { s.placed (some { m with hop := m.hop + 1#8 }) false bytes with
            clock.goodArrivals := s.clock.goodArrivals + 1 })

/-- R82, R83, R86, R89, R171: the good arrival that brings the good-arrival count to 96. Its slot is classified and acted on as one
that arrives in PASSING: an empty slot and a stray leave empty and offered, the stray counted and STRAY latched; an own-source message
leaves empty and not offered; any other message is forwarded. The node is then JOINED and the quiet window starts. JOINING is that
arrival (log entry 2). -/
def Obligations.NinetySixthGoodArrivalJoins : Prop :=
  ∀ (bytes : List Byte) (s : State), s.AwaitsGood bytes → s.clock.start = .passing → s.clock.goodArrivals = 95 →
    exec (.frameArrival bytes) s = exec (.joining bytes) s ∧
    (frameSlot bytes = none →
      exec (.joining bytes) s = .next { s.placed none true bytes with
        clock.start := .joined, clock.goodArrivals := 96, message.quiet := some s.clock.period }) ∧
    ∀ m, frameSlot bytes = some m →
      (m.source = memberByte s.clock.member →
        exec (.joining bytes) s = .next { s.placed none false bytes with
          clock.start := .joined, clock.goodArrivals := 96, message.quiet := some s.clock.period }) ∧
      (m.source ≠ memberByte s.clock.member → 16 ≤ m.source.toNat ∨ 15 ≤ m.hop.toNat →
        exec (.joining bytes) s = .next ({ s.placed none true bytes with
          clock.start := .joined, clock.goodArrivals := 96, message.quiet := some s.clock.period
          message.counters.stray := min 65535 (s.message.counters.stray + 1) }.latchNode .stray)) ∧
      (m.source ≠ memberByte s.clock.member → m.source.toNat < 16 → m.hop.toNat < 15 →
        exec (.joining bytes) s = .next { s.placed (some { m with hop := m.hop + 1#8 }) false bytes with
          clock.start := .joined, clock.goodArrivals := 96, message.quiet := some s.clock.period })

/-- R82, R84, R85, R98: which destinations the node accepts, and what an accepted message of another member that arrives while JOINED
does. It is accepted for the node's own number, for 255, and for 16 to 254 where an enabled range of the profile agrees with it under
the range's mask. It acts as the command of its kind, in the state in which its frame stands in the hop buffer and is to leave with its
hop count raised by one; a kind the node does not act on does no more than that, and a QUERY whose item is outside the table is refused
with MALFORMED. -/
def Obligations.AcceptedMessageActsAsItsCommand : Prop :=
  (∀ (dest : Byte) (s : State), s.accepts dest = true ↔
    dest = memberByte s.clock.member ∨ dest = 255#8 ∨
      (16 ≤ dest.toNat ∧ dest.toNat ≤ 254 ∧
        ∃ r ∈ [s.clock.profile.range1, s.clock.profile.range2], r.enabled = true ∧
          dest &&& r.mask = r.base &&& r.mask)) ∧
  ∀ (bytes : List Byte) (m : Message) (source : Member) (placed s : State),
    s.AwaitsGood bytes → s.Acts source → frameSlot bytes = some m → m.source = memberByte source →
    m.hop.toNat < 15 → s.accepts m.dest = true → placed = s.placed (some { m with hop := m.hop + 1#8 }) false bytes →
    (∀ c : Instr, commandOf source m.kind m.payload.toList = some c → exec (.frameArrival bytes) s = exec c placed) ∧
    (∀ item : Nat, item = (byteAt m.payload.toList 0).toNat → m.kind = 0x1E#8 → item = 0 ∨ 7 < item →
      exec (.frameArrival bytes) s =
        .next (placed.refuse source 0x1E#8 (byteAt m.payload.toList 1) .malformed)) ∧
    (∀ kind : Nat, kind = m.kind.toNat → kind < 0x10 ∨ (0x21 < kind ∧ kind < 0x40) ∨ 0x45 < kind →
      exec (.frameArrival bytes) s = .next placed)

/-- R87, R88, R91: an own-source message that returns while JOINED is removed from its slot, which is not offered; the first entry
of its kind in the in-flight list is retired as delivered and every older one as lost, each counted and LOST latched. -/
def Obligations.ReturnRetiresOlderEntriesAsLost : Prop :=
  ∀ (bytes : List Byte) (m : Message) (older newer : List InFlight) (e : InFlight) (s : State),
    s.AwaitsGood bytes → s.clock.start = .joined → frameSlot bytes = some m →
    m.source = memberByte s.clock.member → s.message.inFlight = older ++ e :: newer →
    (∀ x ∈ older, x.kind ≠ m.kind) → e.kind = m.kind →
    exec (.frameArrival bytes) s = .next { s.placed none false bytes with
      message.inFlight := newer
      message.counters.lost :=
        if older = [] then s.message.counters.lost else min 65535 (s.message.counters.lost + older.length)
      reports.vectors :=
        if older = [] then s.reports.vectors
        else s.reports.vectors.set 64
          { events := s.reports.vectors[64].events ||| NoticeEvent.lost.set
            count := min 255 (s.reports.vectors[64].count + older.length) } }

/-- R89: an own-source message that matches no in-flight entry is removed silently within the 40 periods from the joining; after
them it is a member clash, counted and MEMBER CLASH latched. Either way the slot leaves empty and is not offered. -/
def Obligations.UnmatchedReturnIsAClashOutsideTheQuietWindow : Prop :=
  ∀ (bytes : List Byte) (m : Message) (s : State),
    s.AwaitsGood bytes → s.clock.start = .joined → frameSlot bytes = some m →
    m.source = memberByte s.clock.member → (∀ x ∈ s.message.inFlight, x.kind ≠ m.kind) →
    ((∃ joinedAt, s.message.quiet = some joinedAt ∧ s.clock.period < joinedAt + 40) →
      exec (.frameArrival bytes) s = .next (s.placed none false bytes)) ∧
    ((∀ joinedAt, s.message.quiet = some joinedAt → joinedAt + 40 ≤ s.clock.period) →
      exec (.frameArrival bytes) s = .next ({ s.placed none false bytes with
        message.counters.clash := min 65535 (s.message.counters.clash + 1) }.latchNode .memberClash))

/-- R87, R89: what 40 periods end. The quiet window is over 40 periods after the joining (that the model then drops its start is log
entry 12). Every in-flight entry emitted 40 or more periods before the current one is retired as lost: each raises the lost counter,
holding at 65535, and latches LOST; the entries that remain keep their order. -/
def Obligations.FortyPeriodsEndTheQuietWindowAndRetireEntries : Prop :=
  (∀ (joinedAt : Nat) (s : State), s.message.quiet = some joinedAt →
    (joinedAt + 40 ≤ s.clock.period → exec .quietWindowEnd s = .next { s with message.quiet := none }) ∧
    (s.clock.period < joinedAt + 40 → exec .quietWindowEnd s = .next s)) ∧
  ∀ (gone : Nat) (s : State), gone = s.message.inFlight.countP (fun e => decide (e.period + 40 ≤ s.clock.period)) →
    exec .inflightTimeout s = .next { s with
      message.inFlight := s.message.inFlight.filter fun e => decide (s.clock.period < e.period + 40)
      message.counters.lost :=
        if gone = 0 then s.message.counters.lost else min 65535 (s.message.counters.lost + gone)
      reports.vectors :=
        if gone = 0 then s.reports.vectors
        else s.reports.vectors.set 64
          { events := s.reports.vectors[64].events ||| NoticeEvent.lost.set
            count := min 255 (s.reports.vectors[64].count + gone) } }

/-! ### Frames out -/

/-- R90: the insertion of the emission of this period. When the node is JOINED, the emission's slot is offered and still to leave,
the queue is not empty and fewer than 8 entries are in flight, the head of the queue is written into the slot with this node's
member number and hop count 0, and an entry of its kind and this period joins the in-flight list. When one of them fails, or the
frame has already left, nothing changes. That the insertion can be taken ahead of the rest of its emission is the model's choice (log
entry 4). -/
def Obligations.InsertionTakesTheHeadOfTheQueue : Prop :=
  ∀ s : State,
    (∀ (e : HopEntry) (m : OutMsg) (rest : List OutMsg), s.clock.start = .joined → s.port.transmit = none →
      s.port.due = some e → e.offered = true → s.message.outbound = m :: rest → s.message.inFlight.length < 8 →
      exec .insertion s = .next { s with
        port.due := some { e with
          slot := some { kind := m.body.kind, source := memberByte s.clock.member, dest := m.dest, hop := 0#8
                         payload := payloadOf m.body.bytes }
          offered := false }
        message.outbound := rest
        message.inFlight := s.message.inFlight ++ [{ kind := m.body.kind, period := s.clock.period }] }) ∧
    (s.clock.start ≠ .joined ∨ s.port.transmit ≠ none ∨ s.message.outbound = [] ∨ 8 ≤ s.message.inFlight.length ∨
        (∀ e ∈ s.port.due, e.offered = false) → exec .insertion s = .next s)

/-- R2, R8, R12, R13, R14, R17 to R19, R90: the frame a JOINED node emits, and what its emission leaves. `a` is the state the period's
history advance leaves and `t1` the one its insertion then leaves; the emission takes both first where they are not yet taken (log
entries 3 and 4). An anchored lane restarts with age 0 and the contribution at depth 0; any other lane of a good arrival leaves ORPHAN
where it arrived ORPHAN or with age 15, and with age a + 1 and the saturated sum of its value and the contribution at depth 2(a + 1)
otherwise; without an arrival it leaves ORPHAN. Each anchor takes the record of its lane, and what that latches; nothing else changes. -/
def Obligations.JoinedEmissionForwardsAndRestarts : Prop :=
  ∀ (s : State) (handed : LaneNo → HandOff), s.clock.start = .joined → s.port.transmit = none →
    (∀ j : LaneNo, handed j = match s.port.due with
      | none => .bad
      | some e => match e.lanes[j] with
        | .orphan => .bad
        | .live age value => .good value age) →
    ∃ a t1 t f, exec .historyAdvance s = .next a ∧ exec .insertion a = .next t1 ∧ exec .frameEmission s = .next t ∧
      t = { t1 with
        port.transmit := some f
        outputs.anchors := s.outputs.anchors.map fun x => (x.handOff (handed x.lane)).anchor
        reports.vectors := t.reports.vectors } ∧
      f.emitter = s.clock.member ∧ f.regenerated = s.port.due.isNone ∧ f.slot = t1.port.due.bind HopEntry.slot ∧
      (∀ j : LaneNo, (∃ x ∈ s.outputs.anchors, x.lane = j) →
        f.lanes[j] = .live 0 a.adder.history[(0 : Fin 31)][j]) ∧
      (∀ j : LaneNo, (∀ x ∈ s.outputs.anchors, x.lane ≠ j) →
        (s.port.due = none → f.lanes[j] = .orphan) ∧
        ∀ e, s.port.due = some e →
          (e.lanes[j] = .orphan → f.lanes[j] = .orphan) ∧
          ∀ (age : Fin 16) (value : Int), e.lanes[j] = .live age value →
            (age = 15 → f.lanes[j] = .orphan) ∧
            ∀ h : age.val < 15, f.lanes[j] = .live ⟨age.val + 1, by omega⟩
              (max (-2147483648) (min 2147483647
                (value + a.adder.history[(⟨2 * (age.val + 1), by omega⟩ : Fin 31)][j])))) ∧
      (∀ src : SourceNo, src.val < 32 ∨ src.val = 64 → t.reports.vectors[src] = s.reports.vectors[src]) ∧
      ∀ m : AnchorNo,
        (s.outputs.anchors[m.val]? = none →
          t.reports.vectors[anchorSource m] = s.reports.vectors[anchorSource m]) ∧
        ∀ x, s.outputs.anchors[m.val]? = some x →
          t.reports.vectors[anchorSource m] =
            s.reports.vectors[anchorSource m].latchAll (x.handOff (handed x.lane)).events

/-- R8, R14, R21: the frame a PASSING node emits: nothing is added, anchored or handed off. `a` is the state the period's history
advance leaves, which the emission takes first (log entry 3). A lane of a good arrival leaves ORPHAN where it arrived ORPHAN or with
age 15, and otherwise with its age raised by one and its value unchanged; without an arrival every lane is ORPHAN and the slot empty.
The slot leaves as it stands, also where an insertion filled it before the node left JOINED (log entry 4). Nothing but the transmit link
changes. -/
def Obligations.PassingEmissionOnlyAges : Prop :=
  ∀ s : State, s.clock.start = .passing → s.port.transmit = none →
    ∃ a f, exec .historyAdvance s = .next a ∧ exec .frameEmission s = .next { a with port.transmit := some f } ∧
      f.emitter = s.clock.member ∧ f.regenerated = s.port.due.isNone ∧ f.slot = s.port.due.bind HopEntry.slot ∧
      ∀ j : LaneNo,
        (s.port.due = none → f.lanes[j] = .orphan) ∧
        ∀ e, s.port.due = some e →
          (e.lanes[j] = .orphan → f.lanes[j] = .orphan) ∧
          ∀ (age : Fin 16) (value : Int), e.lanes[j] = .live age value →
            (age = 15 → f.lanes[j] = .orphan) ∧
            ∀ h : age.val < 15, f.lanes[j] = .live ⟨age.val + 1, by omega⟩ value

/-- R5, R11, R81, R100: what a node lays out in the 357 bytes of a frame, another reads back: for every frame whose live values are
lane values and whose message has a kind, the bytes are a good frame, and its emitter, its lanes and its message are those laid
out. -/
def Obligations.EmittedFrameReadsBack : Prop :=
  ∀ f : Frame,
    (∀ (j : LaneNo) (age : Fin 16) (value : Int), f.lanes[j] = .live age value →
      -2147483648 ≤ value ∧ value ≤ 2147483647) →
    (∀ m ∈ f.slot, m.kind ≠ 0#8) →
    f.bytes.length = 357 ∧ isFrame f.bytes = true ∧ goodFrame f.bytes = true ∧
      memberOf (byteAt f.bytes 1) = some f.emitter ∧ byteAt f.bytes 2 = (if f.regenerated then 1#8 else 0#8) ∧
      frameLanes f.bytes = f.lanes ∧ frameSlot f.bytes = f.slot

/-! ### Anchored lanes and stem outputs -/

/-- R65, R66, R68, R69: what a record handed to an anchor does, short of a completed run. A good one writes its value at depth 0 of the
delay line, whose entries each move one deeper, ends the bad run, with FAULT ENDED where the anchor was faulted, and continues the
candidate run of its age or begins one; a bad one writes half the last written value, truncated toward zero, raises the bad run up to
48, at which the anchor is faulted and FAULT BEGUN latched, and discards the candidate. Either takes SILENT to SETTLING. FAULT_BEGUN is
the emission that hands over the 48th consecutive bad period (log entry 2). And 32 bad periods bring any lane value to 0. -/
def Obligations.BadPeriodsConcealAndFault : Prop :=
  (∀ (m : AnchorNo) (a : Anchor) (s : State), s.clock.start = .joined → s.port.transmit = none →
    s.outputs.anchors[m.val]? = some a → (∀ e ∈ s.port.due, e.lanes[a.lane] = .orphan) →
    a.badRun = 47 → a.faulted = false →
    exec (.faultBegun m) s = exec .frameEmission s ∧
    ∃ t b, exec (.faultBegun m) s = .next t ∧ t.outputs.anchors[m.val]? = some b ∧
      b.badRun = 48 ∧ b.faulted = true ∧ b.lastWritten = a.lastWritten.tdiv 2 ∧
      b.delay[0] = a.lastWritten.tdiv 2 ∧ (∀ d : Fin 237, b.delay[d.val + 1] = a.delay[d.val]) ∧
      b.candidateAge = none ∧ b.candidateRun = 0 ∧
      t.reports.vectors[anchorSource m] =
        { events := s.reports.vectors[anchorSource m].events ||| NoticeEvent.faultBegun.set
          count := min 255 (s.reports.vectors[anchorSource m].count + 1) }) ∧
  (∀ (a b : Anchor) (age : Fin 16) (value : Int) (events : List NoticeEvent),
    a.candidateAge ≠ some age ∨ a.candidateRun ≠ 47 → a.handOff (.good value age) = { anchor := b, events } →
    events = (if a.faulted then [.faultEnded] else []) ∧
    b.delay[0] = value ∧ (∀ d : Fin 237, b.delay[d.val + 1] = a.delay[d.val]) ∧
    b = { a with
      state := if a.state = .silent then .settling else a.state
      delay := b.delay, lastWritten := value, badRun := 0, faulted := false, candidateAge := some age
      candidateRun := if a.candidateAge = some age then min 48 (a.candidateRun + 1) else 1 }) ∧
  (∀ (a b : Anchor) (events : List NoticeEvent), a.handOff .bad = { anchor := b, events } →
    events = (if a.badRun = 47 ∧ a.faulted = false then [.faultBegun] else []) ∧
    b.delay[0] = a.lastWritten.tdiv 2 ∧ (∀ d : Fin 237, b.delay[d.val + 1] = a.delay[d.val]) ∧
    b = { a with
      state := if a.state = .silent then .settling else a.state
      delay := b.delay, lastWritten := a.lastWritten.tdiv 2, badRun := min 48 (a.badRun + 1)
      faulted := a.faulted || decide (a.badRun = 47), candidateAge := none, candidateRun := 0 }) ∧
  ∀ a : Anchor, -2147483648 ≤ a.lastWritten → a.lastWritten ≤ 2147483647 →
    ((fun b : Anchor => (b.handOff .bad).anchor)^[32] a).lastWritten = 0

/-- R68 to R72: the record that brings an anchor's candidate run to 48, by the output state it meets. In SETTLING (and in SILENT,
which the record first brings to SETTLING) the age settles and RISING is entered; in RISING, RUNNING and REALIGN UP another age than
the settled one enters REALIGN DOWN, with the switch taken at once where the master already rests at 0; in REALIGN DOWN it is the
pending age, the settled age, or a new pending age. The record's value is written as any good record's is, and FAULT ENDED latched where
the anchor was faulted (R65, R66). RUN_COMPLETED is the emission that hands this record over (log entry 2). -/
def Obligations.RunCompletedActsByTheOutputState : Prop :=
  ∀ (m : AnchorNo) (a : Anchor) (e : HopEntry) (age : Fin 16) (value : Int) (s : State),
    s.clock.start = .joined → s.port.transmit = none → s.outputs.anchors[m.val]? = some a →
    s.port.due = some e → e.lanes[a.lane] = .live age value → a.candidateAge = some age → a.candidateRun = 47 →
    exec (.runCompleted m) s = exec .frameEmission s ∧
    ∃ t b, exec (.runCompleted m) s = .next t ∧ t.outputs.anchors[m.val]? = some b ∧
      b.candidateAge = some age ∧ b.candidateRun = 48 ∧ b.lastWritten = value ∧ b.badRun = 0 ∧ b.faulted = false ∧
      b.level = a.level ∧ b.mute = a.mute ∧ b.peak = a.peak ∧ b.ramp.applied = a.ramp.applied ∧
      b.delay[0] = value ∧ (∀ d : Fin 237, b.delay[d.val + 1] = a.delay[d.val]) ∧
      (a.faulted = true → t.reports.vectors[anchorSource m].events.getLsbD 6 = true) ∧
      (∀ up : Nat, up = (if a.mute then 0 else coef a.level) →
        (a.state = .settling ∨ a.state = .silent →
          b.settledAge = some age ∧ b.pendingAge = a.pendingAge ∧ b.ramp = a.ramp.retarget up 96 ∧
          b.state = if b.ramp.step < b.ramp.length then .rising else .running) ∧
        (a.state = .rising ∨ a.state = .running ∨ a.state = .realignUp →
          (a.settledAge = some age → b.state = a.state ∧ b.settledAge = a.settledAge ∧ b.ramp = a.ramp) ∧
          (a.settledAge ≠ some age → (a.ramp.target ≠ 0 ∨ a.ramp.step < a.ramp.length) →
            b.state = .realignDown ∧ b.pendingAge = some age ∧ b.settledAge = a.settledAge ∧
            b.ramp = a.ramp.retarget 0 96) ∧
          (a.settledAge ≠ some age → a.ramp.target = 0 → a.ramp.length ≤ a.ramp.step →
            b.settledAge = some age ∧ b.pendingAge = none ∧ b.ramp = a.ramp.retarget up 96 ∧
            (b.state = if b.ramp.step < b.ramp.length then .realignUp else .running) ∧
            t.reports.vectors[anchorSource m].events.getLsbD 7 = true)) ∧
        (a.state = .realignDown →
          (a.pendingAge = some age → b.state = a.state ∧ b.pendingAge = a.pendingAge ∧ b.settledAge = a.settledAge ∧
            b.ramp = a.ramp) ∧
          (a.pendingAge ≠ some age → a.settledAge = some age →
            b.settledAge = some age ∧ b.pendingAge = none ∧ b.ramp = a.ramp.retarget up 96 ∧
            b.state = if b.ramp.step < b.ramp.length then .realignUp else .running) ∧
          (a.pendingAge ≠ some age → a.settledAge ≠ some age →
            b.state = .realignDown ∧ b.pendingAge = some age ∧ b.settledAge = a.settledAge ∧ b.ramp = a.ramp)))

/-- R67, R73, R75 to R77: the output processing of one period, for anchors on slots of their own. Each anchor's ramp takes one step
while it is in progress; the value at depth Λ − 1 − 2(a + 1), or 0 without a settled age, is scaled by the applied master after the
step, rounded and clamped; the clamp latches CLIP; the peak rises to the sample's magnitude; the sample leaves on the anchor's slot
and 0 on every other. A step that completes the ramp enters RUNNING from RISING and REALIGN UP (ENTER_RUNNING) and takes the switch
in REALIGN DOWN (REALIGN_SWITCH); those two commands are this processing (log entry 2).
That the processing is taken once a period is a flag of the model's (log entry 3). -/
def Obligations.OutputSampleIsDelayedScaledAndClamped : Prop :=
  ∀ s : State, s.clock.start = .passing ∨ s.clock.start = .joined → s.clock.taken.output = false →
    (s.outputs.anchors.map Anchor.slot).Nodup →
    ∃ t, exec .outputProcessing s = .next t ∧
      t = { s with outputs := t.outputs, clock.taken.output := true, reports.vectors := t.reports.vectors } ∧
      t.outputs.anchors.length = s.outputs.anchors.length ∧
      (∀ slot : SlotNo, (∀ a ∈ s.outputs.anchors, a.slot ≠ slot) → t.outputs.slots[slot] = 0) ∧
      (∀ src : SourceNo, src.val < 32 ∨ src.val = 64 → t.reports.vectors[src] = s.reports.vectors[src]) ∧
      ∀ (m : AnchorNo) (a : Anchor), s.outputs.anchors[m.val]? = some a →
        ∃ b, t.outputs.anchors[m.val]? = some b ∧
          b.lane = a.lane ∧ b.slot = a.slot ∧ b.delay = a.delay ∧ b.lastWritten = a.lastWritten ∧ b.level = a.level ∧
          b.mute = a.mute ∧ b.badRun = a.badRun ∧ b.faulted = a.faulted ∧ b.candidateAge = a.candidateAge ∧
          b.candidateRun = a.candidateRun ∧
          (b.ramp.applied = if a.ramp.step < a.ramp.length then a.ramp.stepOnce.applied else a.ramp.applied) ∧
          (∀ (delayed exact : Int),
            (delayed = match a.settledAge with
              | none => 0
              | some age => a.delay.toList.getD (s.clock.profile.latency - 1 - 2 * (age.val + 1)) 0) →
            exact = (delayed * b.ramp.applied + 2097152) / 4194304 →
            t.outputs.slots[a.slot] = max (-8388608) (min 8388607 exact) ∧
            b.peak = max a.peak (t.outputs.slots[a.slot]).natAbs ∧
            (exact < -8388608 ∨ 8388607 < exact → t.reports.vectors[anchorSource m].events.getLsbD 4 = true)) ∧
          (a.ramp.length ≤ a.ramp.step → b.ramp = a.ramp ∧ b.state = a.state ∧ b.settledAge = a.settledAge ∧
            b.pendingAge = a.pendingAge) ∧
          (a.ramp.step + 1 < a.ramp.length → b.ramp = a.ramp.stepOnce ∧ b.state = a.state ∧
            b.settledAge = a.settledAge ∧ b.pendingAge = a.pendingAge) ∧
          (a.ramp.step + 1 = a.ramp.length →
            (a.state = .rising ∨ a.state = .realignUp → exec (.enterRunning m) s = .next t ∧
              b.state = .running ∧ b.ramp = a.ramp.stepOnce ∧ b.settledAge = a.settledAge) ∧
            (a.state = .realignDown → exec (.realignSwitch m) s = .next t ∧
              b.settledAge = a.pendingAge ∧ b.pendingAge = none ∧
              b.ramp = a.ramp.stepOnce.retarget (if a.mute then 0 else coef a.level) 96 ∧
              (b.state = if b.ramp.step < b.ramp.length then .realignUp else .running) ∧
              t.reports.vectors[anchorSource m].events.getLsbD 7 = true))

/-- R72 to R74: OUTPUT SET for a lane this node anchors, or for all. Each anchor named takes the fields the mask names, the level
clamped into −1440…+120; its master target is recomputed where one of them changed, over 96 periods when the mute did and 240 when
only the level did; a ramp left complete in RISING or REALIGN UP enters RUNNING. A lane field of 64 to 254 is MALFORMED, and a lane
not anchored here NOT READY; neither changes an anchor. -/
def Obligations.OutputSetTakesLevelAndMute : Prop :=
  ∀ (source : Member) (f : OutputSetFields) (s : State), s.Acts source →
    (64 ≤ f.lane.toNat → f.lane ≠ 255#8 →
      exec (.outputSet source f) s = .next (s.refuse source 0x1D#8 f.lane .malformed)) ∧
    (f.lane.toNat < 64 → (∀ a ∈ s.outputs.anchors, a.lane.val ≠ f.lane.toNat) →
      exec (.outputSet source f) s = .next (s.refuse source 0x1D#8 f.lane .notReady)) ∧
    (f.lane = 255#8 ∨ (∃ a ∈ s.outputs.anchors, a.lane.val = f.lane.toNat) →
      ∃ t, exec (.outputSet source f) s = .next t ∧ t = { s with outputs.anchors := t.outputs.anchors } ∧
        t.outputs.anchors.length = s.outputs.anchors.length ∧
        ∀ (m : Nat) (a : Anchor), s.outputs.anchors[m]? = some a →
          ∃ b, t.outputs.anchors[m]? = some b ∧
            (f.lane ≠ 255#8 → a.lane.val ≠ f.lane.toNat → b = a) ∧
            (f.lane = 255#8 ∨ a.lane.val = f.lane.toNat →
              b = { a with level := b.level, mute := b.mute, ramp := b.ramp, state := b.state } ∧
              b.level = (if f.mask.getLsbD 0 then max (-1440) (min 120 f.level.toInt) else a.level) ∧
              b.mute = (if f.mask.getLsbD 1 then f.mute != 0#8 else a.mute) ∧
              (b.level = a.level → b.mute = a.mute → b = a) ∧
              (b.level ≠ a.level ∨ b.mute ≠ a.mute →
                b.ramp = a.ramp.retarget
                  (if b.mute = false ∧ (a.state = .rising ∨ a.state = .running ∨ a.state = .realignUp)
                    then coef b.level else 0)
                  (if b.mute = a.mute then 240 else 96) ∧
                b.state = if (a.state = .rising ∨ a.state = .realignUp) ∧ b.ramp.length ≤ b.ramp.step
                  then .running else a.state)))

/-! ### Samples, ramps and levels -/

/-- R14, R61: the start of a period. Every entry of the contribution history moves one depth deeper, the sums handed over enter at
depth 0, and nothing else changes. It is taken once in a period, which the model keeps by a flag, and ahead of everything of the period
that reads the history or hands over sums: an emission, a sample processing or the edge that ends the period takes it first where it is
still to be taken (log entry 3). That the handed sums then read 0 is the model's choice (log entry 13). -/
def Obligations.HistoryAdvanceMovesEveryEntryDeeper : Prop :=
  ∀ s : State, s.clock.start = .passing ∨ s.clock.start = .joined →
    (s.clock.taken.advanced = true → exec .historyAdvance s = .next s) ∧
    (s.clock.taken.advanced = false →
      ∃ t, exec .historyAdvance s = .next t ∧ t = { s with adder := t.adder, clock.taken.advanced := true } ∧
        (∀ j : LaneNo, t.adder.history[(0 : Fin 31)][j] = s.adder.handed[j]) ∧
        (∀ (d : Fin 30) (j : LaneNo), t.adder.history[d.val + 1][j] = s.adder.history[d.val][j]) ∧
        ∀ j : LaneNo, t.adder.handed[j] = 0) ∧
    ∀ a : State, exec .historyAdvance s = .next a →
      exec (.wordClockEdge .within) s = exec (.wordClockEdge .within) a ∧
      (s.port.transmit = none → exec .frameEmission s = exec .frameEmission a) ∧
      (s.clock.taken.sampled = false → ∀ samples : List Sample,
        exec (.sampleProcessing samples) s = exec (.sampleProcessing samples) a)

/-- R39, R53 to R61: the processing of one period's samples. Each strip's ramp takes one step while it is in progress; the strip
product is the sample (0 while its port has lost framing) times the applied coefficient after the step, rounded; the peak rises to
its magnitude and a magnitude of 2^23 or more latches OVER; each lane's sum takes one rounded tap product for each tap of the
placement in force. A strip whose swap is pending and whose applied coefficient is 0 after the step takes its incoming placement, and
its target is recomputed over 96 periods. SWAP_COMPLETION is the processing in which strip n does so (log entry 2). `a` is the state the
period's history advance leaves, which the processing takes first; that it is taken once a period is a flag of the model's (log
entry 3). -/
def Obligations.SampleProcessingStepsRampsAndSumsLanes : Prop :=
  ∀ (samples : List Sample) (s : State), samples.length = 32 → s.clock.start = .passing ∨ s.clock.start = .joined →
    s.clock.taken.sampled = false →
    ∃ a t, exec .historyAdvance s = .next a ∧ exec (.sampleProcessing samples) s = .next t ∧
      t = { a with
        engine.strips := t.engine.strips
        adder.handed := t.adder.handed
        clock.taken.sampled := true
        reports.vectors := t.reports.vectors } ∧
      (∀ src : SourceNo, 32 ≤ src.val → t.reports.vectors[src] = s.reports.vectors[src]) ∧
      ∀ (r : StripNo → Ramp) (y : StripNo → Int),
        (∀ n, r n = if (s.strip n).ramp.step < (s.strip n).ramp.length then (s.strip n).ramp.stepOnce
          else (s.strip n).ramp) →
        (∀ n : StripNo, y n =
          ((if s.clock.ports[n.val / 8] then (samples.getD n.val 0#24).toInt else 0) * (r n).applied + 2097152) / 4194304) →
        (∀ j : LaneNo, t.adder.handed[j] = ∑ n : StripNo,
          (((s.strip n).placement.filter fun tap => tap.lane == j).map fun tap => (y n * tap.coef + 16384) / 32768).sum) ∧
        ∀ n : StripNo,
          t.reports.vectors[stripSource n] =
            (if 8388608 ≤ (y n).natAbs then
              { events := s.reports.vectors[stripSource n].events ||| NoticeEvent.over.set
                count := min 255 (s.reports.vectors[stripSource n].count + 1) }
            else s.reports.vectors[stripSource n]) ∧
          (((s.strip n).swapPending = false ∨ (r n).applied ≠ 0) → exec (.swapCompletion n samples) s = .next s ∧
            t.strip n = { s.strip n with ramp := r n, peak := max (s.strip n).peak (y n).natAbs }) ∧
          ((s.strip n).swapPending = true → (r n).applied = 0 → exec (.swapCompletion n samples) s = .next t ∧
            ∃ b : Strip, b = { s.strip n with
              peak := max (s.strip n).peak (y n).natAbs
              placement := (s.strip n).incoming.getD (s.strip n).placement
              incoming := none
              swapPending := false } ∧
            t.strip n = { b with
              ramp := (r n).retarget (b.target s.census.soloActive s.engine.activeMutes) 96 })

/-- R46, R48, R49: a ramp from a recomputation to its end. A target that equals the current one leaves the ramp as it is; another one
restarts it from the applied coefficient, which does not move. After k of its R steps the applied coefficient is the start plus
(target − start) × k / R truncated toward zero, which keeps it on the start side of the line and between start and target; a falling
ramp to 0 is at 0 at step R and not before; from step R on it rests at the target and no step is taken. -/
def Obligations.RestartedRampReachesItsTargetAtTheLastStep : Prop :=
  ∀ (r : Ramp) (target length : Nat), 0 < length →
    (target = r.target → r.retarget target length = r) ∧
    (target ≠ r.target → ∀ (k : Nat) (at_k : Ramp), at_k = Ramp.advance^[k] (r.retarget target length) →
      at_k.start = r.applied ∧ at_k.target = target ∧ at_k.length = length ∧ at_k.step = min k length ∧
      (length ≤ k → at_k.applied = target) ∧
      (k < length →
        (at_k.applied : Int) = r.applied + (((target : Int) - r.applied) * k).tdiv length ∧
        min r.applied target ≤ at_k.applied ∧ at_k.applied ≤ max r.applied target ∧
        (r.applied ≤ target →
          ((at_k.applied : Int) - r.applied) * length ≤ ((target : Int) - r.applied) * k) ∧
        (target ≤ r.applied →
          ((target : Int) - r.applied) * k ≤ ((at_k.applied : Int) - r.applied) * length) ∧
        (target = 0 → 0 < r.applied → 0 < at_k.applied) ∧
        (r.applied = 0 → (at_k.applied = 0 ↔ target * k < length))))

/-- R43: the coefficient of every level from −1440 to +120: 0 at −1000 and below, and above it the integer nearest to
4,194,304 × 10^(L/200), never halfway; it never falls as the level rises; and the manual's table of values. -/
def Obligations.CoefficientIsTheNearestInteger : Prop :=
  (∀ level : Int, level ≤ -1000 → coef level = 0) ∧
  (∀ level : Int, -999 ≤ level → level ≤ 120 →
    |(coef level : ℝ) - 4194304 * (10 : ℝ) ^ ((level : ℝ) / 200)| < 1 / 2) ∧
  (∀ lower upper : Int, lower ≤ upper → upper ≤ 120 → coef lower ≤ coef upper) ∧
  coef 120 = 16697825 ∧ coef 60 = 8368737 ∧ coef 0 = 4194304 ∧ coef (-60) = 2102132 ∧ coef (-120) = 1053562 ∧
  coef (-200) = 419430 ∧ coef (-400) = 41943 ∧ coef (-600) = 4194 ∧ coef (-800) = 419 ∧ coef (-999) = 42 ∧
  coef (-998) = 43 ∧ coef (-997) = 43

/-! ### Strip records -/

/-- R27 to R32, R42, R44, R101, R138: an accepted STRIP SET for one strip. The fields the mask names take the values carried, clamped; a
change of mode clears latched and, where it brings the live level into force, copies the effective fader into it (that this fader is
the one before latched is cleared is log entry 10); a change of link group keeps the offset. The target is the one the strip's fields
give, and a ramp to another target starts from the applied coefficient with the length of the last field that changed: 96 for
solo-safe, muted or cut, 240 for trim, the glide for mode. A strip that leads its group and leaves it, or enters READ, releases the lead:
the entry is cleared and its release offered, and the lowest waiter takes it with a claim. Nothing else changes. -/
def Obligations.StripSetWritesTheNamedFields : Prop :=
  ∀ (source : Member) (f : StripSetFields) (n : StripNo) (s : State), s.Acts source → f.strip.toNat = n.val →
    s.TargetsSound → (f.mask.getLsbD 2 = true → f.mode.toNat < 4) →
    ∃ t a b, exec (.stripSet source f) s = .next t ∧ a = s.strip n ∧ b = t.strip n ∧
      t = { s with
        engine.strips := t.engine.strips
        groups := t.groups
        message.outbound := t.message.outbound
        message.counters.outboundDrop := t.message.counters.outboundDrop
        reports.vectors := t.reports.vectors } ∧
      (∀ k : StripNo, k ≠ n → t.strip k = s.strip k) ∧
      b = { a with
        glide := b.glide, linkGroup := b.linkGroup, mode := b.mode, live := b.live, latched := b.latched
        trim := b.trim, cut := b.cut, mutes := b.mutes, safe := b.safe, ramp := b.ramp } ∧
      b.glide = (if f.mask.getLsbD 0 then max 48 (min 48000 f.glide.toNat) else a.glide) ∧
      (f.mask.getLsbD 1 = false → b.linkGroup = a.linkGroup) ∧
      (f.mask.getLsbD 1 = true → f.group.toNat = 0 → b.linkGroup = none) ∧
      (∀ g : GroupNo, f.mask.getLsbD 1 = true → 1 ≤ f.group.toNat → g.val + 1 = min 32 f.group.toNat →
        b.linkGroup = some g) ∧
      b.mode = (if f.mask.getLsbD 2 then
        (match f.mode.toNat with | 0 => .manual | 1 => .read | 2 => .touch | _ => .latch) else a.mode) ∧
      b.latched = (a.latched && decide (b.mode = a.mode)) ∧
      b.live = (if b.mode ≠ a.mode ∧ (b.mode = .manual ∨ ((b.mode = .touch ∨ b.mode = .latch) ∧ a.touched = true))
        then a.effective else a.live) ∧
      b.trim = (if f.mask.getLsbD 3 then max (-200) (min 200 f.trim.toInt) else a.trim) ∧
      b.cut = (if f.mask.getLsbD 4 then f.cut != 0#8 else a.cut) ∧
      b.mutes = (if f.mask.getLsbD 5 then f.mutes else a.mutes) ∧
      b.safe = (if f.mask.getLsbD 6 then f.safe != 0#8 else a.safe) ∧
      b.ramp.target = (if b.cut = true ∨ b.mutes &&& s.engine.activeMutes ≠ 0#16 ∨
          (s.census.soloActive = true ∧ b.soloed = false ∧ b.safe = false) ∨ b.swapPending = true then 0
        else coef (max (-1440) (min 120 (b.effective + b.trim + b.offset)))) ∧
      b.ramp = a.ramp.retarget b.ramp.target
        (if b.safe ≠ a.safe ∨ b.muted s.engine.activeMutes ≠ a.muted s.engine.activeMutes ∨ b.cut ≠ a.cut then 96
        else if b.trim ≠ a.trim then 240 else b.glide) ∧
      ((∀ g : GroupNo, s.leads g n = false) → t.groups = s.groups ∧ t.message = s.message ∧ t.reports = s.reports) ∧
      ∀ g : GroupNo, a.linkGroup = some g → s.leads g n = true → (∀ h : GroupNo, h ≠ g → s.leads h n = false) →
        (b.linkGroup = some g → b.mode ≠ .read ∨ a.mode = .read →
          t.groups = s.groups ∧ t.message = s.message ∧ t.reports = s.reports) ∧
        (b.linkGroup ≠ some g ∨ (b.mode = .read ∧ a.mode ≠ .read) →
          (∀ h : GroupNo, h ≠ g → t.group h = s.group h) ∧
          ((∀ k : StripNo, k ≠ n → s.isWaiter g k = false) → ∀ r : State, r = s.announce (.release g n) →
            t.group g = { lead := none, silent := 0, mark := false } ∧ t.message = r.message ∧ t.reports = r.reports) ∧
          ∀ k : StripNo, k ≠ n → s.isWaiter g k = true →
            (∀ lower : StripNo, lower ≠ n → lower < k → s.isWaiter g lower = false) →
            ∀ r : State, r = (s.announce (.release g n)).announce (.claim g k) →
              t.group g = { lead := some { member := s.clock.member, strip := k }, silent := 0, mark := false } ∧
              t.message = r.message ∧ t.reports = r.reports)

/-- R34, R35: MUTE GROUP for a group of 1 to 16 adds it to the active set or removes it. Every strip whose muted state changes has its
target recomputed over 96 periods; no other strip changes, and nothing else of the node does. A group of 0 or above 16 is refused
with MALFORMED. -/
def Obligations.MuteGroupSwitchesOneGroup : Prop :=
  ∀ (source : Member) (group state : Byte) (s : State), s.Acts source →
    (1 ≤ group.toNat → group.toNat ≤ 16 →
      ∃ t, exec (.muteGroup source group state) s = .next t ∧ t = { s with engine := t.engine } ∧
        (∀ i : Fin 16, t.engine.activeMutes.getLsbD i.val =
          if i.val + 1 = group.toNat then state != 0#8 else s.engine.activeMutes.getLsbD i.val) ∧
        ∀ (n : StripNo) (a : Strip), a = s.strip n →
          t.strip n =
            if a.muted t.engine.activeMutes = a.muted s.engine.activeMutes then a
            else { a with ramp := a.ramp.retarget (a.target s.census.soloActive t.engine.activeMutes) 96 }) ∧
    (group.toNat = 0 ∨ 16 < group.toNat →
      exec (.muteGroup source group state) s = .next (s.refuse source 0x17#8 group .malformed))

/-- R36 to R38, R40: PLACE. `taps` are the taps it carries, their coefficients clamped to 32768. Part 1 of 2 is staged. A complete
placement, of one part or of the staged part and this one, replaces the incoming one of a swap that is pending, takes over at once
where the applied coefficient is 0, and otherwise is held incoming while the strip falls to 0 over 96 periods; the staged placement is
gone. A malformed one is refused and discards the staged placement. Only the named strip changes. -/
def Obligations.PlaceStagesOrCommitsAPlacement : Prop :=
  ∀ (source : Member) (f : PlaceFields) (n : StripNo) (s : State), s.Acts source → f.strip.toNat = n.val →
    (∀ taps : List Tap, f.count.toNat ≤ 4 → (taps.map Tap.lane).Nodup →
      (([f.tap0, f.tap1, f.tap2, f.tap3].take f.count.toNat).map fun x => (x.lane.toNat, min 32768 x.coef.toNat)) =
        taps.map (fun tap => (tap.lane.val, tap.coef)) →
      (f.part = 1#8 → f.parts = 2#8 → taps ≠ [] →
        exec (.place source f) s = .next (s.setStrip n { s.strip n with staged := some taps })) ∧
      ∀ whole : List Tap,
        (f.part = 1#8 ∧ f.parts = 1#8 ∧ whole = taps) ∨
          (f.part = 2#8 ∧ f.parts = 2#8 ∧ taps ≠ [] ∧ (whole.map Tap.lane).Nodup ∧
            ∃ first, (s.strip n).staged = some first ∧ whole = first ++ taps) →
        ((s.strip n).swapPending = true →
          exec (.place source f) s = .next (s.setStrip n { s.strip n with staged := none, incoming := some whole })) ∧
        ((s.strip n).swapPending = false → (s.strip n).ramp.applied = 0 →
          exec (.place source f) s = .next (s.setStrip n { s.strip n with
            staged := none, placement := whole
            ramp := (s.strip n).ramp.retarget ((s.strip n).target s.census.soloActive s.engine.activeMutes) 96 })) ∧
        ((s.strip n).swapPending = false → (s.strip n).ramp.applied ≠ 0 →
          exec (.place source f) s = .next (s.setStrip n { s.strip n with
            staged := none, incoming := some whole, swapPending := true
            ramp := (s.strip n).ramp.retarget 0 96 }))) ∧
    ((f.parts ≠ 1#8 ∧ f.parts ≠ 2#8) ∨ (f.part ≠ 1#8 ∧ f.part ≠ 2#8) ∨ (f.parts = 1#8 ∧ f.part = 2#8) ∨
        4 < f.count.toNat ∨ (f.parts = 2#8 ∧ f.count = 0#8) ∨
        (∃ x ∈ [f.tap0, f.tap1, f.tap2, f.tap3].take f.count.toNat, 64 ≤ x.lane.toNat) ∨
        ¬(([f.tap0, f.tap1, f.tap2, f.tap3].take f.count.toNat).map TapField.lane).Nodup ∨
        (f.parts = 2#8 ∧ f.part = 2#8 ∧ ((s.strip n).staged = none ∨ ∃ first, (s.strip n).staged = some first ∧
          ∃ tap ∈ first, ∃ x ∈ [f.tap0, f.tap1, f.tap2, f.tap3].take f.count.toNat, x.lane.toNat = tap.lane.val)) →
      exec (.place source f) s =
        .next ((s.setStrip n { s.strip n with staged := none }).refuse source 0x11#8 f.strip .malformed))

/-! ### Automation -/

/-- R106 to R112, R114: a CUE for one strip, its level and ramp clamped. While rolling, a cue at or below the current position fires at
its arrival: the automation level takes its level, and the target is recomputed with the cue's ramp where the effective fader changed;
below it CUE LATE is latched. Any other cue is offered to the list, which stays in strictly increasing position order with at most 16
cues: it replaces a cue at its position or joins, and at a full list the latest of the seventeen is dropped and CUE OVERFLOW latched.
CUE FLUSH empties the strip's list. Nothing else changes. -/
def Obligations.CueFiresOrJoinsItsListInOrder : Prop :=
  ∀ (source : Member) (f : CueFields) (n : StripNo) (c : Cue) (s : State), s.Acts source → f.strip.toNat = n.val →
    c = { position := f.position, level := max (-1440) (min 120 f.level.toInt), ramp := max 1 (min 48000 f.ramp.toNat) } →
    exec (.cueFlush source f.strip) s = .next (s.setCues n []) ∧
    (s.clock.rolling = true → f.position ≤ s.clock.position →
      ∃ t a b, exec (.cue source f) s = .next t ∧ a = s.strip n ∧ b = { a with auto := c.level } ∧
        t = { s with engine.strips := t.engine.strips, reports.vectors := t.reports.vectors } ∧
        (∀ k : StripNo, k ≠ n → t.strip k = s.strip k) ∧
        t.strip n = (if b.effective = a.effective then b
          else { b with ramp := a.ramp.retarget (b.target s.census.soloActive s.engine.activeMutes) c.ramp }) ∧
        (∀ src : SourceNo, src ≠ stripSource n → t.reports.vectors[src] = s.reports.vectors[src]) ∧
        t.reports.vectors[stripSource n] =
          (if f.position = s.clock.position then s.reports.vectors[stripSource n]
          else { events := s.reports.vectors[stripSource n].events ||| NoticeEvent.cueLate.set
                 count := min 255 (s.reports.vectors[stripSource n].count + 1) })) ∧
    (s.clock.rolling = false ∨ s.clock.position < f.position → s.CuesSound →
      ∃ t, exec (.cue source f) s = .next t ∧
        t = { s with cues := t.cues, reports.vectors := t.reports.vectors } ∧
        (∀ k : StripNo, k ≠ n → t.cueList k = s.cueList k) ∧
        (∀ src : SourceNo, src ≠ stripSource n → t.reports.vectors[src] = s.reports.vectors[src]) ∧
        (t.cueList n).length ≤ 16 ∧ (t.cueList n).Pairwise (fun x y => x.position < y.position) ∧
        ((∃ d ∈ s.cueList n, d.position = c.position) ∨ (s.cueList n).length < 16 →
          t.reports = s.reports ∧
          ∀ d : Cue, d ∈ t.cueList n ↔ d = c ∨ (d ∈ s.cueList n ∧ d.position ≠ c.position)) ∧
        (∀ (front : List Cue) (last : Cue), s.cueList n = front ++ [last] → front.length = 15 →
          (∀ d ∈ s.cueList n, d.position ≠ c.position) →
          t.reports.vectors[stripSource n] =
            { events := s.reports.vectors[stripSource n].events ||| NoticeEvent.cueOverflow.set
              count := min 255 (s.reports.vectors[stripSource n].count + 1) } ∧
          (last.position < c.position → t.cueList n = s.cueList n) ∧
          (c.position < last.position → ∀ d : Cue, d ∈ t.cueList n ↔ d = c ∨ d ∈ front)))

/-- R102, R103, R136, R138, R152: TOUCH for one strip. A repeat changes nothing. A touch edge copies the automation level into a live
level that was not in force in TOUCH or LATCH, latches a LATCH strip while rolling, and leaves the effective fader as it was; in a mode
other than READ a group without a lead takes this strip's key and a GROUP CLAIM is offered. A release edge recomputes the target over
the strip's glide where the effective fader changed; a lead it holds in a mode other than READ is released, and goes to the lowest
waiter with a claim. A unit in WRITING bound to the strip takes the mark. -/
def Obligations.TouchAndReleaseEdges : Prop :=
  ∀ (source : Member) (strip touched : Byte) (n : StripNo) (a : Strip) (s : State), s.Acts source →
    strip.toNat = n.val → a = s.strip n →
    ((touched ≠ 0#8 ↔ a.touched = true) → exec (.touch source strip touched) s = .next s) ∧
    (¬(touched ≠ 0#8 ↔ a.touched = true) →
      ∃ t b, exec (.touch source strip touched) s = .next t ∧ b = t.strip n ∧
        t = { s with
          engine.strips := t.engine.strips
          groups := t.groups
          units := t.units
          message.outbound := t.message.outbound
          message.counters.outboundDrop := t.message.counters.outboundDrop
          reports.vectors := t.reports.vectors } ∧
        (∀ k : StripNo, k ≠ n → t.strip k = s.strip k) ∧
        (a.touched = false →
          b = { a with
            touched := true
            live := if a.mode = .touch ∨ (a.mode = .latch ∧ a.latched = false) then a.auto else a.live
            latched := a.latched || (decide (a.mode = .latch) && s.clock.rolling) } ∧
          b.effective = a.effective) ∧
        (a.touched = true →
          b = { a with
            touched := false
            ramp := if ({ a with touched := false } : Strip).effective = a.effective then a.ramp
              else a.ramp.retarget (({ a with touched := false } : Strip).target s.census.soloActive
                s.engine.activeMutes) a.glide }) ∧
        (a.mode = .read ∨ a.linkGroup = none ∨ (a.touched = true ∧ ∀ g : GroupNo, s.leads g n = false) →
          t.groups = s.groups ∧ t.message = s.message ∧ t.reports = s.reports) ∧
        (∀ g : GroupNo, a.mode ≠ .read → a.linkGroup = some g →
          (∀ h : GroupNo, h ≠ g → t.group h = s.group h) ∧
          (a.touched = false → (s.group g).lead = none →
            t.group g = { s.group g with lead := some { member := s.clock.member, strip := n }, silent := 0 } ∧
            t.message = (s.announce (.claim g n)).message) ∧
          (a.touched = false → (s.group g).lead ≠ none → t.groups = s.groups ∧ t.message = s.message) ∧
          (a.touched = true → s.leads g n = true →
            ((∀ k : StripNo, k ≠ n → s.isWaiter g k = false) →
              t.group g = { lead := none, silent := 0, mark := false } ∧
              t.message = (s.announce (.release g n)).message) ∧
            ∀ k : StripNo, k ≠ n → s.isWaiter g k = true →
              (∀ lower : StripNo, lower ≠ n → lower < k → s.isWaiter g lower = false) →
              t.group g = { lead := some { member := s.clock.member, strip := k }, silent := 0, mark := false } ∧
              t.message = ((s.announce (.release g n)).announce (.claim g k)).message)) ∧
        (∀ (u : UnitNo) (c : CaptureUnit), c = s.captureUnit u →
          t.captureUnit u = if a.binding = some u ∧ c.state = .writing
            then { c with marks := c.marks ||| (if a.touched then 0x04#8 else 0x02#8) } else c))

/-- R33, R104, R139: FADER for one strip, its level clamped into −1440…+120. The level held changes nothing. Another one is stored, and
moves the target over 240 periods where the live level is in force. Where the strip leads its group, the difference is added to the
link offset of every other local member, held within −400…+400 with LINK CLAMP latched, their targets recomputed over 240 periods where
the offset changed, and a GROUP DELTA offered; otherwise nothing else changes. -/
def Obligations.FaderMovesTheLiveLevelAndItsGroup : Prop :=
  ∀ (source : Member) (strip : Byte) (carried : BitVec 16) (n : StripNo) (a : Strip) (level : Int) (s : State),
    s.Acts source → strip.toNat = n.val → a = s.strip n → level = max (-1440) (min 120 carried.toInt) →
    (level = a.live → exec (.fader source strip carried) s = .next s) ∧
    (level ≠ a.live →
      ∃ t, exec (.fader source strip carried) s = .next t ∧
        t = { s with
          engine.strips := t.engine.strips
          message.outbound := t.message.outbound
          message.counters.outboundDrop := t.message.counters.outboundDrop
          reports.vectors := t.reports.vectors } ∧
        t.strip n = { a with
          live := level
          ramp := if a.mode = .manual ∨ (a.mode = .touch ∧ a.touched = true) ∨
              (a.mode = .latch ∧ (a.touched = true ∨ a.latched = true))
            then a.ramp.retarget (({ a with live := level } : Strip).target s.census.soloActive s.engine.activeMutes) 240
            else a.ramp } ∧
        ((∀ g : GroupNo, a.linkGroup = some g → s.leads g n = false) →
          (∀ k : StripNo, k ≠ n → t.strip k = s.strip k) ∧ t.message = s.message ∧ t.reports = s.reports) ∧
        ∀ (g : GroupNo) (change : Int), a.linkGroup = some g → s.leads g n = true → change = level - a.live →
          t.message = (s.announce (.delta g n change)).message ∧
          (∀ src : SourceNo, 32 ≤ src.val → src.val < 64 → t.reports.vectors[src] = s.reports.vectors[src]) ∧
          ∀ (k : StripNo) (b : Strip) (sum offset : Int), k ≠ n → b = s.strip k → sum = b.offset + change →
            offset = max (-400) (min 400 sum) →
            t.strip k = (if b.linkGroup = some g ∧ offset ≠ b.offset then
              { b with
                offset := offset
                ramp := b.ramp.retarget (({ b with offset := offset } : Strip).target s.census.soloActive
                  s.engine.activeMutes) 240 }
              else b) ∧
            t.reports.vectors[stripSource k] =
              (if b.linkGroup = some g ∧ (sum < -400 ∨ 400 < sum) then
                { events := s.reports.vectors[stripSource k].events ||| NoticeEvent.linkClamp.set
                  count := min 255 (s.reports.vectors[stripSource k].count + 1) }
              else s.reports.vectors[stripSource k]))

/-! ### Solo in place and the census -/

/-- R117 to R119, R130: SOLO for one strip. A state that the strip already has changes nothing. Otherwise soloed takes it, the local solo
count follows, a SOLO ON or SOLO OFF is offered, a strip that is no longer soloed loses its refresh mark, and solo active is judged
again: it is yes while the local solo count or the Current table's population is above 0. Every strip's target is then what its fields
and solo active give, a ramp to another target lasting 96 periods. -/
def Obligations.SoloChangesTheCountAndSoloActive : Prop :=
  ∀ (source : Member) (strip state : Byte) (n : StripNo) (s : State), s.Acts source → strip.toNat = n.val →
    s.TargetsSound → s.SoloSound →
    ((state ≠ 0#8 ↔ (s.strip n).soloed = true) → exec (.solo source strip state) s = .next s) ∧
    (¬(state ≠ 0#8 ↔ (s.strip n).soloed = true) →
      ∃ t, exec (.solo source strip state) s = .next t ∧
        t = { s with
          engine.strips := t.engine.strips
          census.localSolo := t.census.localSolo
          census.soloActive := t.census.soloActive
          census.marks := t.census.marks
          message := t.message
          reports.vectors := t.reports.vectors } ∧
        t.census.localSolo = (if state = 0#8 then s.census.localSolo - 1 else s.census.localSolo + 1) ∧
        t.census.soloActive =
          (decide (0 < t.census.localSolo) || decide (0 < (s.table s.census.roles.current).population)) ∧
        (∀ k : StripNo, t.census.marks[k] = (s.census.marks[k] && !(decide (k = n) && state == 0#8))) ∧
        t.message = (s.announce (if state = 0#8 then .soloOff n else .soloOn n)).message ∧
        ∀ (k : StripNo) (a : Strip),
          a = (if k = n then { s.strip n with soloed := state != 0#8 } else s.strip k) →
          t.strip k = { a with ramp := a.ramp.retarget (a.target t.census.soloActive s.engine.activeMutes) 96 })

/-- R119, R120, R122 to R124: SOLO ON, SOLO REFRESH and SOLO OFF of another member for one of its strips. SOLO ON and SOLO REFRESH make
its key present in the Current and the Next table, except in a table whose home entry is taken and whose free stack is empty, which
counts the overflow and latches CENSUS OVERFLOW in the node's vector; SOLO OFF makes it absent from both. Every other key, and the Empty table, stay as they were. Solo active is judged
again, and every strip's target is what it then gives. -/
def Obligations.SoloAnnouncementsChangeTheCurrentAndNextTables : Prop :=
  ∀ (source : Member) (strip : Byte) (n : StripNo) (key : Key) (s : State), s.Acts source → strip.toNat = n.val →
    key = { member := source, strip := n } → s.TargetsSound → s.SoloSound → s.CensusSound →
    exec (.soloRefresh source strip) s = exec (.soloOn source strip) s ∧
    ∃ tOn tOff, exec (.soloOn source strip) s = .next tOn ∧ exec (.soloOff source strip) s = .next tOff ∧
      (∀ t, t = tOn ∨ t = tOff →
        t = { s with
          engine.strips := t.engine.strips
          census.tables := t.census.tables
          census.soloActive := t.census.soloActive
          message.counters.censusOverflow := t.message.counters.censusOverflow
          reports.vectors := t.reports.vectors } ∧
        t.table s.census.roles.empty = s.table s.census.roles.empty ∧
        (∀ (i : Fin 3) (other : Key), other ≠ key → (t.table i).present other = (s.table i).present other) ∧
        t.census.soloActive =
          (decide (0 < s.census.localSolo) || decide (0 < (t.table s.census.roles.current).population)) ∧
        ∀ (k : StripNo) (a : Strip), a = s.strip k →
          t.strip k = { a with ramp := a.ramp.retarget (a.target t.census.soloActive s.engine.activeMutes) 96 }) ∧
      (∀ i : Fin 3, i ≠ s.census.roles.empty →
        (tOff.table i).present key = false ∧
        ((tOn.table i).present key = true ↔
          ((s.table i).present key = true ∨ (s.table i).home[key.home] = none ∨ (s.table i).free ≠ []))) ∧
      tOff.message = s.message ∧ tOff.reports = s.reports ∧
      (∀ src : SourceNo, src ≠ nodeSource → tOn.reports.vectors[src] = s.reports.vectors[src]) ∧
      ∀ missed : Nat,
        missed = (List.finRange 3).countP (fun i => i != s.census.roles.empty && !(tOn.table i).present key) →
        tOn.message.counters.censusOverflow =
          (if missed = 0 then s.message.counters.censusOverflow
          else min 65535 (s.message.counters.censusOverflow + missed)) ∧
        tOn.reports.vectors[nodeSource] =
          if missed = 0 then s.reports.vectors[nodeSource]
          else
            { events := s.reports.vectors[nodeSource].events ||| NoticeEvent.censusOverflow.set
              count := min 255 (s.reports.vectors[nodeSource].count + missed) }

/-- R125 to R127, R129, R130, R143: an aging event, as the timer's expiry takes it and as CENSUS SWEEP takes it at its arrival. The
timer's count restarts. With no clearing in progress the roles rotate and clearing of the new Empty table begins; with one, the
rotation is held. Solo active is judged against the Current table. Each remote lead's silent count rises, and a lead heard from at
neither of the last two events lapses to the lowest waiter, which claims it, or to none, with LEAD LAPSED latched for each lapse; the
claims are offered in group order; each local lead, and each soloed strip,
is marked refresh-pending. LEAD_LAPSE is the timer's expiry at which a lead lapses (log entry 2); that a rotation's clearing begins in the next
period is kept by a once-a-period flag of the model's (log entry 3). -/
def Obligations.AgingEventRotatesLapsesAndMarks : Prop :=
  (∀ s : State, s.clock.start = .passing ∨ s.clock.start = .joined → s.census.agingCount < s.clock.profile.aging →
    exec .agingEvent s = .next s) ∧
  ∀ (i : Instr) (s : State), s.SoloSound → s.TargetsSound →
    (∃ source, s.Acts source ∧ i = .censusSweep source) ∨
      ((s.clock.start = .passing ∨ s.clock.start = .joined) ∧ s.clock.profile.aging ≤ s.census.agingCount ∧
        (i = .agingEvent ∨ ∃ (g : GroupNo) (k : Key), i = .leadLapse g ∧ (s.group g).lead = some k ∧
          k.member ≠ s.clock.member ∧ 1 ≤ (s.group g).silent)) →
    ∃ t, exec i s = .next t ∧
      t = { s with
        engine.strips := t.engine.strips
        census := t.census
        groups := t.groups
        clock.taken.cleared := t.clock.taken.cleared
        message.outbound := t.message.outbound
        message.counters.outboundDrop := t.message.counters.outboundDrop
        reports.vectors := t.reports.vectors } ∧
      t.census.agingCount = 0 ∧ t.census.tables = s.census.tables ∧ t.census.localSolo = s.census.localSolo ∧
      (s.census.clearing = none → t.census.clearing = some 0 ∧ t.census.held = s.census.held ∧
        t.census.roles =
          { current := s.census.roles.next, next := s.census.roles.empty, empty := s.census.roles.current } ∧
        t.clock.taken.cleared = true) ∧
      (s.census.clearing ≠ none → t.census.clearing = s.census.clearing ∧ t.census.held = true ∧
        t.census.roles = s.census.roles ∧ t.clock = s.clock) ∧
      t.census.soloActive =
        (decide (0 < s.census.localSolo) || decide (0 < (s.table t.census.roles.current).population)) ∧
      (∀ (k : StripNo) (a : Strip), a = s.strip k →
        t.strip k = { a with ramp := a.ramp.retarget (a.target t.census.soloActive s.engine.activeMutes) 96 } ∧
        t.census.marks[k] = (s.census.marks[k] || a.soloed)) ∧
      (∀ (lapsed : List GroupNo) (r : State),
        lapsed = (List.finRange 32).filter (fun g => match (s.group g).lead with
          | none => false
          | some k => k.member != s.clock.member && decide (1 ≤ (s.group g).silent)) →
        r = lapsed.foldl (fun (q : State) g => match (List.finRange 32).find? (s.isWaiter g) with
          | some n => q.announce (.claim g n)
          | none => q) s →
        t.message = r.message ∧
        (∀ src : SourceNo, src ≠ nodeSource → t.reports.vectors[src] = s.reports.vectors[src]) ∧
        t.reports.vectors[nodeSource] =
          if lapsed = [] then s.reports.vectors[nodeSource]
          else
            { events := r.reports.vectors[nodeSource].events ||| NoticeEvent.leadLapsed.set
              count := min 255 (r.reports.vectors[nodeSource].count + lapsed.length) }) ∧
      ∀ g : GroupNo,
        ((s.group g).lead = none → t.group g = s.group g) ∧
        ∀ k : Key, (s.group g).lead = some k →
          (k.member = s.clock.member → t.group g = { s.group g with mark := true }) ∧
          (k.member ≠ s.clock.member → (s.group g).silent = 0 → t.group g = { s.group g with silent := 1 }) ∧
          (k.member ≠ s.clock.member → 1 ≤ (s.group g).silent →
            ((∀ n : StripNo, s.isWaiter g n = false) → t.group g = { s.group g with lead := none, silent := 0 }) ∧
            ∀ n : StripNo, s.isWaiter g n = true → (∀ lower : StripNo, lower < n → s.isWaiter g lower = false) →
              t.group g = { s.group g with lead := some { member := s.clock.member, strip := n }, silent := 0 })

/-- R128, R129: a clearing turn takes one home entry of the Empty table: the entry is vacant, and the link entries of its chain are
pushed onto the free stack (one after another in chain order, log entry 14). The turn that takes home entry 127 completes clearing, and
a held rotation is taken then: the roles rotate, clearing begins anew, and solo active is judged again. CLEARING_COMPLETE is that turn
(log entry 2).
That a period has one turn is a flag of the model's (log entry 3). -/
def Obligations.ClearingTakesOneHomeEntryEachPeriod : Prop :=
  ∀ (i : Fin 128) (s : State), s.clock.start = .passing ∨ s.clock.start = .joined → s.clock.taken.cleared = false →
    s.census.clearing = some i → s.TargetsSound → s.SoloSound →
    (i = 127 → exec .clearingComplete s = exec .censusClearing s) ∧
    ∃ t, exec .censusClearing s = .next t ∧
      t = { s with
        engine.strips := t.engine.strips
        census.tables := t.census.tables
        census.roles := t.census.roles
        census.clearing := t.census.clearing
        census.held := t.census.held
        census.soloActive := t.census.soloActive
        clock.taken.cleared := true } ∧
      (∀ j : Fin 3, j ≠ s.census.roles.empty → t.table j = s.table j) ∧
      (t.table s.census.roles.empty).home = (s.table s.census.roles.empty).home.set i none ∧
      (t.table s.census.roles.empty).free =
        (homeLinks (s.table s.census.roles.empty).home[i]).reverse ++ (s.table s.census.roles.empty).free ∧
      (∀ h : i.val < 127, t.census.clearing = some ⟨i.val + 1, by omega⟩ ∧ t.census.held = s.census.held ∧
        t.census.roles = s.census.roles ∧ t.census.soloActive = s.census.soloActive ∧ t.engine = s.engine) ∧
      (i = 127 → s.census.held = false → t.census.clearing = none ∧ t.census.held = false ∧
        t.census.roles = s.census.roles ∧ t.census.soloActive = s.census.soloActive ∧ t.engine = s.engine) ∧
      (i = 127 → s.census.held = true → t.census.clearing = some 0 ∧ t.census.held = false ∧
        t.census.roles =
          { current := s.census.roles.next, next := s.census.roles.empty, empty := s.census.roles.current } ∧
        t.census.soloActive =
          (decide (0 < s.census.localSolo) || decide (0 < (t.table t.census.roles.current).population)) ∧
        ∀ (k : StripNo) (a : Strip), a = s.strip k →
          t.strip k = { a with ramp := a.ramp.retarget (a.target t.census.soloActive s.engine.activeMutes) 96 })

/-! ### Link groups -/

/-- R33, R134, R135, R140 to R142: GROUP CLAIM, GROUP RELEASE and GROUP DELTA of another member for its strip's key. A claim is taken by a
group without a lead and by one whose lead key is higher; from the lead it renews the silent count, and from a higher key it changes
nothing. A release from the lead clears it, and the lowest waiter takes it with a claim of its own. A delta from the lead moves the link
offset of the local members as R33 states and renews the silent count; from any other key it is counted as stale and STALE DELTA
latched. -/
def Obligations.GroupAnnouncementsFollowTheLowestKey : Prop :=
  ∀ (source : Member) (group strip : Byte) (carried : BitVec 16) (g : GroupNo) (n : StripNo) (key : Key) (s : State),
    s.Acts source → group.toNat = g.val + 1 → strip.toNat = n.val → key = { member := source, strip := n } →
    ((s.group g).lead = none → exec (.groupClaim source group strip) s =
      .next (s.setGroup g { s.group g with lead := some key, silent := 0 })) ∧
    ((s.group g).lead ≠ some key → exec (.groupRelease source group strip) s = .next s ∧
      exec (.groupDelta source group strip carried) s = .next ({ s with
        message.counters.staleDelta := min 65535 (s.message.counters.staleDelta + 1) }.latchNode .staleDelta)) ∧
    (∀ lead : Key, (s.group g).lead = some lead → lead ≠ key →
      (32 * key.member.val + key.strip.val < 32 * lead.member.val + lead.strip.val →
        exec (.groupClaim source group strip) s = .next (s.setGroup g
          { lead := some key, silent := 0
            mark := (s.group g).mark && decide (lead.member ≠ s.clock.member) })) ∧
      (32 * lead.member.val + lead.strip.val < 32 * key.member.val + key.strip.val →
        exec (.groupClaim source group strip) s = .next s)) ∧
    ((s.group g).lead = some key →
      exec (.groupClaim source group strip) s = .next (s.setGroup g { s.group g with silent := 0 }) ∧
      ((∀ k : StripNo, s.isWaiter g k = false) → exec (.groupRelease source group strip) s =
        .next (s.setGroup g { s.group g with lead := none, silent := 0 })) ∧
      (∀ k : StripNo, s.isWaiter g k = true → (∀ lower : StripNo, lower < k → s.isWaiter g lower = false) →
        exec (.groupRelease source group strip) s = .next ((s.setGroup g { s.group g with
          lead := some { member := s.clock.member, strip := k }, silent := 0 }).announce (.claim g k))) ∧
      ∃ t, exec (.groupDelta source group strip carried) s = .next t ∧
        t = { s with engine.strips := t.engine.strips, groups := t.groups, reports.vectors := t.reports.vectors } ∧
        t.group g = { s.group g with silent := 0 } ∧ (∀ h : GroupNo, h ≠ g → t.group h = s.group h) ∧
        (∀ src : SourceNo, 32 ≤ src.val → t.reports.vectors[src] = s.reports.vectors[src]) ∧
        ∀ (k : StripNo) (b : Strip) (sum offset : Int), b = s.strip k → sum = b.offset + carried.toInt →
          offset = max (-400) (min 400 sum) →
          t.strip k = (if b.linkGroup = some g ∧ offset ≠ b.offset then
            { b with
              offset := offset
              ramp := b.ramp.retarget (({ b with offset := offset } : Strip).target s.census.soloActive
                s.engine.activeMutes) 240 }
            else b) ∧
          t.reports.vectors[stripSource k] =
            (if b.linkGroup = some g ∧ (sum < -400 ∨ 400 < sum) then
              { events := s.reports.vectors[stripSource k].events ||| NoticeEvent.linkClamp.set
                count := min 255 (s.reports.vectors[stripSource k].count + 1) }
            else s.reports.vectors[stripSource k]))

/-! ### Gain capture -/

/-- R148 to R151, R159: CAPTURE START for an IDLE unit and a strip no unit is bound to. With punch-out at or below punch-in the capture
ends at once with NO TRANSFER, unbound. Otherwise the unit is armed and bound; where the transport is already rolling at or above
punch-in it enters WRITING and records the effective fader there, with LATE START above punch-in, and FINAL where punch-out is reached.
A unit, strip or record member that names none is MALFORMED, a unit not IDLE is BUSY, and a bound strip NOT READY. -/
def Obligations.CaptureStartArmsWritesOrEnds : Prop :=
  (∀ (source : Member) (f : CaptureStartFields) (s : State), s.Acts source →
    (4 ≤ f.unit.toNat ∨ 32 ≤ f.strip.toNat ∨ 16 ≤ f.recordMember.toNat →
      exec (.captureStart source f) s = .next (s.refuse source 0x18#8 f.unit .malformed)) ∧
    ∀ (u : UnitNo) (n : StripNo), f.unit.toNat = u.val → f.strip.toNat = n.val → f.recordMember.toNat < 16 →
      ((s.captureUnit u).state ≠ .idle →
        exec (.captureStart source f) s = .next (s.refuse source 0x18#8 f.unit .busy)) ∧
      ((s.captureUnit u).state = .idle → (s.strip n).binding ≠ none →
        exec (.captureStart source f) s = .next (s.refuse source 0x18#8 f.unit .notReady))) ∧
  ∀ (source : Member) (f : CaptureStartFields) (u : UnitNo) (n : StripNo) (m : Member) (c : CaptureUnit) (s : State),
    s.Acts source → f.unit.toNat = u.val → f.strip.toNat = n.val → f.recordMember.toNat = m.val →
    (s.captureUnit u).state = .idle → (s.captureUnit u).buffer = [] → (s.strip n).binding = none →
    c = { s.captureUnit u with
      settings := { strip := n, punchIn := f.punchIn, punchOut := f.punchOut, threshold := f.threshold.toNat
                    noticeMask := f.noticeMask &&& 0x7F#8, recordMember := m }
      endRecord := none, conditions := 0#8, recordsSent := 0, overruns := 0, marks := 0#8, lastLevel := none
      lastPosition := none, keepalive := 0 } →
    (f.punchOut ≤ f.punchIn → ∀ e : EndRecord,
      e = { conditions := 0x20#8, lastPosition := none, recordsSent := 0, overruns := 0 } →
      ∃ t, exec (.captureStart source f) s = .next t ∧ t = { s with units := t.units, message := t.message } ∧
        (∀ v : UnitNo, v ≠ u → t.captureUnit v = s.captureUnit v) ∧
        t.captureUnit u = { c with
          conditions := 0x20#8
          endRecord := some e
          state := if f.noticeMask.getLsbD 5 = false then .idle
            else if s.reports.inhibited then .ended
            else if s.message.outbound.length ≤ 30 then .idle
            else .draining } ∧
        t.message = (if f.noticeMask.getLsbD 5 = true ∧ s.reports.inhibited = false ∧ s.message.outbound.length ≤ 30
          then (s.offer { dest := memberByte m, body := .captureEnd u e }).message
          else s.message)) ∧
    (f.punchIn < f.punchOut →
      (s.clock.rolling = false ∨ s.clock.position < f.punchIn → exec (.captureStart source f) s =
        .next ((s.setUnit u { c with state := .armed, bound := some n }).setStrip n
          { s.strip n with binding := some u })) ∧
      (s.clock.rolling = true → f.punchIn ≤ s.clock.position → ∀ (late : Byte) (level : Int),
        late = (if f.punchIn < s.clock.position then 0x08#8 else 0#8) → level = (s.strip n).effective →
        (s.clock.position < f.punchOut → exec (.captureStart source f) s =
          .next ((s.setUnit u { c with
            state := .writing
            bound := some n
            buffer := [{ position := s.clock.position, level, flags := late, formed := s.clock.period }]
            lastLevel := some level
            lastPosition := some s.clock.position }).setStrip n { s.strip n with binding := some u })) ∧
        (f.punchOut ≤ s.clock.position → exec (.captureStart source f) s =
          .next (s.setUnit u { c with
            state := .draining
            bound := none
            conditions := 0x01#8
            buffer := [{ position := s.clock.position, level, flags := late ||| 0x01#8, formed := s.clock.period }]
            lastLevel := some level
            lastPosition := some s.clock.position }))))

/-- R156 to R159: CAPTURE STOP, CAPTURE SUSPEND, CAPTURE RESUME and CAPTURE CLEAR by the unit's state. A stop ends WRITING and SUSPENDED
with a FINAL record of the effective fader at the current position and DRAINING. A suspend discards the pending marks; a resume adds
RESUME to them. A stop in ARMED, and a clear in ARMED, WRITING and DRAINING, discard what is buffered and end the capture at once: the end
record is built and judged against the notice mask. A clear in SUSPENDED and ENDED returns to IDLE with the end record and no CAPTURE END.
The strip is released with the unit. Any other state is NOT READY, but for a clear in IDLE, which changes nothing.
That the clear in ENDED adds CLEARED to the end record and leaves the unit's own conditions as they stand is log entry 21. -/
def Obligations.CaptureControlsFollowTheUnitState : Prop :=
  ∀ (source : Member) (unit : Byte) (u : UnitNo) (c : CaptureUnit) (s : State), s.Acts source → unit.toNat = u.val →
    c = s.captureUnit u → s.CapturesSound →
    (c.state = .idle → exec (.captureClear source unit) s = .next s) ∧
    (c.state = .idle ∨ c.state = .draining ∨ c.state = .ended →
      exec (.captureStop source unit) s = .next (s.refuse source 0x19#8 unit .notReady)) ∧
    (c.state ≠ .writing → exec (.captureSuspend source unit) s = .next (s.refuse source 0x1A#8 unit .notReady)) ∧
    (c.state = .writing → exec (.captureSuspend source unit) s =
      .next (s.setUnit u { c with state := .suspended, marks := 0#8 })) ∧
    (c.state ≠ .suspended → exec (.captureResume source unit) s = .next (s.refuse source 0x1B#8 unit .notReady)) ∧
    (c.state = .suspended → exec (.captureResume source unit) s =
      .next (s.setUnit u { c with state := .writing, marks := c.marks ||| 0x10#8 })) ∧
    (∀ n : StripNo, c.state = .writing ∨ c.state = .suspended → c.bound = some n → ∀ level : Int,
      level = (s.strip n).effective →
      ∃ t d, exec (.captureStop source unit) s = .next t ∧ d = t.captureUnit u ∧
        t = { s with units := t.units, engine.strips := t.engine.strips } ∧
        (∀ v : UnitNo, v ≠ u → t.captureUnit v = s.captureUnit v) ∧
        (∀ k : StripNo, t.strip k = if k = n then { s.strip n with binding := none } else s.strip k) ∧
        d = { c with
          state := .draining, bound := none, marks := 0#8, keepalive := 0, lastLevel := some level
          lastPosition := some s.clock.position, buffer := d.buffer, overruns := d.overruns
          conditions := d.conditions } ∧
        (c.buffer.length < 16 → d.conditions = c.conditions ||| 0x02#8 ∧ d.overruns = c.overruns ∧
          d.buffer = c.buffer ++
            [{ position := s.clock.position, level, flags := c.marks ||| 0x01#8, formed := s.clock.period }]) ∧
        (c.buffer.length = 16 → d.conditions = c.conditions ||| 0x40#8 ||| 0x02#8 ∧
          d.overruns = min 65535 (c.overruns + 1) ∧ d.buffer = c.buffer)) ∧
    (c.state = .ended → exec (.captureClear source unit) s = .next (s.setUnit u { c with
      state := .idle, endRecord := c.endRecord.map fun e => { e with conditions := e.conditions ||| 0x10#8 } })) ∧
    ∀ (i : Instr) (added : Byte),
      (i = .captureStop source unit ∧ c.state = .armed ∧ added = 0x22#8) ∨
        (i = .captureClear source unit ∧ c.state = .armed ∧ added = 0x30#8) ∨
        (i = .captureClear source unit ∧ (c.state = .writing ∨ c.state = .draining ∨ c.state = .suspended) ∧
          added = 0x10#8) →
      ∃ t e sent, exec i s = .next t ∧
        e = { conditions := c.conditions ||| added, lastPosition := c.lastPosition, recordsSent := c.recordsSent
              overruns := c.overruns } ∧
        sent = (decide (c.state ≠ .suspended) && ((c.conditions ||| added) &&& c.settings.noticeMask) != 0#8) ∧
        t = { s with units := t.units, engine.strips := t.engine.strips, message := t.message } ∧
        (∀ v : UnitNo, v ≠ u → t.captureUnit v = s.captureUnit v) ∧
        (∀ k : StripNo, t.strip k = if c.bound = some k then { s.strip k with binding := none } else s.strip k) ∧
        t.captureUnit u = { c with
          bound := none, conditions := c.conditions ||| added, buffer := [], marks := 0#8, endRecord := some e
          state := if sent = false then .idle
            else if s.reports.inhibited then .ended
            else if s.message.outbound.length ≤ 30 then .idle
            else .draining } ∧
        t.message = (if sent = true ∧ s.reports.inhibited = false ∧ s.message.outbound.length ≤ 30
          then (s.offer { dest := memberByte c.settings.recordMember, body := .captureEnd u e }).message
          else s.message)

/-- R154, R159: a unit's packing turn. With at least 2 free entries it packs one CAPTURE RECORDS where the buffer holds 4 records, its
head is 480 periods old, or the unit is DRAINING: the longest run of up to 4 records from the head whose offsets from it are at most
65535. A turn that leaves a DRAINING unit's buffer empty takes the end of DRAINING (DRAIN_END), and a turn in ENDED offers the held
CAPTURE END while notices are not inhibited (HELD_END_OFFER); those two commands are this turn (log entry 2). That an offset is taken
modulo 2^48 is log entry 15.
That each unit has one turn a period is a flag of the model's (log entry 3). -/
def Obligations.PackingTurnSendsRecordsAndEnds : Prop :=
  ∀ (u : UnitNo) (c : CaptureUnit) (s turned : State), s.clock.start = .passing ∨ s.clock.start = .joined →
    s.clock.taken.turns[u] = false → c = s.captureUnit u →
    turned = { s with clock.taken.turns := s.clock.taken.turns.set u true } →
    (c.state ≠ .ended → (c.buffer = [] → c.state ≠ .draining) →
      (31 ≤ s.message.outbound.length ∨ c.buffer = [] ∨
        (c.state ≠ .draining ∧ c.buffer.length < 4 ∧ ∀ r ∈ c.buffer.head?, s.clock.period < r.formed + 480)) →
      exec (.packingTurn u) s = .next turned) ∧
    (∀ (r : Record) (group rest : List Record) (sent : State), c.state ≠ .ended → s.message.outbound.length ≤ 30 →
      c.buffer = r :: group ++ rest → group.length ≤ 3 →
      (∀ x ∈ group, (x.position - r.position).toNat ≤ 65535) →
      (group.length = 3 ∨ ∀ x ∈ rest.head?, 65535 < (x.position - r.position).toNat) →
      (c.state = .draining ∨ 4 ≤ c.buffer.length ∨ r.formed + 480 ≤ s.clock.period) →
      sent = (turned.setUnit u { c with
          buffer := rest, recordsSent := min 65535 (c.recordsSent + (group.length + 1)) }).offer
        { dest := memberByte c.settings.recordMember
          body := .records u r.position ((r :: group).map fun x =>
            { offset := (x.position - r.position).toNat, level := x.level, flags := x.flags }) } →
      (c.state ≠ .draining ∨ rest ≠ [] → exec (.packingTurn u) s = .next sent) ∧
      (c.state = .draining → rest = [] → exec (.drainEnd u) s = exec (.packingTurn u) s ∧
        exec (.packingTurn u) s = .next (sent.endDrain u))) ∧
    (c.state = .draining → c.buffer = [] → exec (.drainEnd u) s = exec (.packingTurn u) s ∧
      ∃ t e, exec (.drainEnd u) s = .next t ∧ t = { turned with units := t.units, message := t.message } ∧
        e = { conditions := c.conditions, lastPosition := c.lastPosition, recordsSent := c.recordsSent
              overruns := c.overruns } ∧
        t.captureUnit u = { c with
          endRecord := some e
          state := if c.conditions &&& c.settings.noticeMask = 0#8 then .idle
            else if s.reports.inhibited then .ended
            else if s.message.outbound.length ≤ 30 then .idle
            else .draining } ∧
        t.message = (if c.conditions &&& c.settings.noticeMask ≠ 0#8 ∧ s.reports.inhibited = false ∧
            s.message.outbound.length ≤ 30
          then (s.offer { dest := memberByte c.settings.recordMember, body := .captureEnd u e }).message
          else s.message)) ∧
    (c.state = .ended →
      (s.reports.inhibited = true ∨ 31 ≤ s.message.outbound.length → exec (.packingTurn u) s = .next turned) ∧
      ∀ e : EndRecord, s.reports.inhibited = false → s.message.outbound.length ≤ 30 → c.endRecord = some e →
        exec (.heldEndOffer u) s = exec (.packingTurn u) s ∧
        exec (.heldEndOffer u) s = .next ((turned.setUnit u { c with state := .idle }).offer
          { dest := memberByte c.settings.recordMember, body := .captureEnd u e }))

/-! ### The reference input and the local ports -/

/-- R105, R111 to R113, R150 to R153, R155, R172, R173: one reference event. An invalid period reads as parked at the position held, with
POSITION FAULT. The change to rolling latches touched LATCH strips; the change to parked clears latched, a strip whose effective fader
that changes gliding over its glide, and ends WRITING and SUSPENDED captures with PARKED. A discontinuity empties every cue list and
ends them with DISCONTINUITY. Any other rolling position fires the cues at the head of each list that it reaches, the last standing, and
takes ARMED units at punch-in to WRITING and units at punch-out to DRAINING. A unit in WRITING forms a record where it has none yet, where
its level has moved by the threshold, where marks are pending, at a keepalive count of 4800, and at punch-out; `took` is what a record
does. An ending carries FINAL, a first sampling above punch-in LATE START, and a full buffer drops the record and gathers OVERRUN.
KEEPALIVE is the event at which a unit's count of 4800 forces a record (log entry 2). The level is the fader's before or after the event,
as the cues, the strips and the units come in either order (log entry 8); the event is taken once a period by a flag (log entry 3). -/
def Obligations.ReferenceEventMovesTheTransport : Prop :=
  (∀ (position q : Position) (rolling valid reading : Bool) (s : State),
    s.clock.start = .passing ∨ s.clock.start = .joined → s.clock.taken.referenced = false →
    reading = (rolling && valid) → q = (if valid then position else s.clock.position) →
    ∃ t, exec (.referenceEvent position rolling valid) s = .next t ∧
      t = { s with
        clock := { s.clock with
          rolling := reading, position := q, referenced := true, taken := { s.clock.taken with referenced := true } }
        engine.strips := t.engine.strips
        cues := t.cues
        units := t.units
        reports := if valid then s.reports else (s.latchNode .positionFault).reports } ∧
      (reading = false → s.clock.rolling = false → t.engine = s.engine ∧ t.cues = s.cues ∧ t.units = s.units) ∧
      (reading = false → s.clock.rolling = true → t.cues = s.cues ∧
        ∀ (n : StripNo) (a b : Strip), a = s.strip n → b = { a with latched := false } →
          t.strip n = { b with
            binding := (t.strip n).binding
            ramp := if b.effective = a.effective then a.ramp
              else a.ramp.retarget (b.target s.census.soloActive s.engine.activeMutes) a.glide }) ∧
      ∀ jump : Bool, jump = (s.clock.referenced && decide (q ≠ s.clock.position + 1#48) &&
          (s.clock.rolling || decide (q ≠ s.clock.position))) →
        (reading = true → ∀ (n : StripNo) (a : Strip) (due later : List Cue),
          a = { s.strip n with
            latched := (s.strip n).latched ||
              (!s.clock.rolling && decide ((s.strip n).mode = .latch) && (s.strip n).touched) } →
          s.cueList n = due ++ later → (∀ d ∈ due, d.position ≤ q) → (∀ d ∈ later.head?, q < d.position) →
          (jump = true → t.cueList n = [] ∧ t.strip n = { a with binding := (t.strip n).binding }) ∧
          (jump = false → t.cueList n = later ∧
            (due = [] → t.strip n = { a with binding := (t.strip n).binding }) ∧
            ∀ (before : List Cue) (c : Cue) (b : Strip), due = before ++ [c] → b = { a with auto := c.level } →
              t.strip n = { b with
                binding := (t.strip n).binding
                ramp := if b.effective = a.effective then a.ramp
                  else a.ramp.retarget (b.target s.census.soloActive s.engine.activeMutes) c.ramp })) ∧
        ∀ (u : UnitNo) (c d : CaptureUnit) (late : Byte) (took : Position → Int → Byte → CaptureUnit),
          c = s.captureUnit u → d = t.captureUnit u →
          late = (if c.lastLevel = none ∧ c.settings.punchIn < q then 0x08#8 else 0#8) →
          (∀ (at_q : Position) (level : Int) (flags : Byte), took at_q level flags = { c with
            lastLevel := some level, lastPosition := some at_q, keepalive := 0, marks := 0#8
            buffer := if c.buffer.length < 16 then
                c.buffer ++ [{ position := at_q, level, flags := c.marks ||| flags, formed := s.clock.period }]
              else c.buffer
            overruns := if c.buffer.length < 16 then c.overruns else min 65535 (c.overruns + 1)
            conditions := if c.buffer.length < 16 then c.conditions else c.conditions ||| 0x40#8 }) →
          (c.state = .idle ∨ c.state = .draining ∨ c.state = .ended → d = c) ∧
          (c.state = .armed → reading = false ∨ jump = true ∨ q < c.settings.punchIn → d = c) ∧
          (c.state = .suspended → reading = true → jump = false → q < c.settings.punchOut → d = c) ∧
          ∀ n : StripNo, c.bound = some n →
            ∃ level : Int, (level = (s.strip n).effective ∨ level = (t.strip n).effective) ∧
              (c.state = .writing ∨ c.state = .suspended →
                (reading = false → s.clock.rolling = true → d = { took s.clock.position level 0x01#8 with
                  state := .draining, bound := none
                  conditions := (took s.clock.position level 0x01#8).conditions ||| 0x04#8 }) ∧
                (reading = true → jump = true → d = { took s.clock.position level 0x01#8 with
                  state := .draining, bound := none
                  conditions := (took s.clock.position level 0x01#8).conditions ||| 0x08#8 })) ∧
              (c.state = .suspended → reading = true → jump = false → c.settings.punchOut ≤ q →
                d = { took q level 0x01#8 with
                  state := .draining, bound := none, conditions := (took q level 0x01#8).conditions ||| 0x01#8 }) ∧
              (c.state = .writing ∨ (c.state = .armed ∧ c.settings.punchIn ≤ q) → reading = true → jump = false →
                (c.settings.punchOut ≤ q → d = { took q level (late ||| 0x01#8) with
                  state := .draining, bound := none
                  conditions := (took q level (late ||| 0x01#8)).conditions ||| 0x01#8 }) ∧
                (q < c.settings.punchOut →
                  (c.lastLevel = none ∨ c.marks ≠ 0#8 ∨ 4799 ≤ c.keepalive →
                    d = { took q level late with state := .writing }) ∧
                  ∀ last : Int, c.lastLevel = some last →
                    (level ≠ last → c.settings.threshold ≤ (level - last).natAbs →
                      d = { took q level late with state := .writing }) ∧
                    (level = last ∨ (level - last).natAbs < c.settings.threshold → c.marks = 0#8 →
                      c.keepalive < 4799 → d = { c with state := .writing, keepalive := c.keepalive + 1 })))) ∧
  ∀ (u : UnitNo) (q : Position) (c : CaptureUnit) (s : State),
    s.clock.start = .passing ∨ s.clock.start = .joined → s.clock.taken.referenced = false → c = s.captureUnit u →
    c.state = .writing → 4799 ≤ c.keepalive → q = s.clock.position + 1#48 → q < c.settings.punchOut →
    c.buffer.length < 16 →
    exec (.keepalive u q) s = exec (.referenceEvent q true true) s ∧
    ∃ t r, exec (.keepalive u q) s = .next t ∧ (t.captureUnit u).buffer = c.buffer ++ [r] ∧ r.position = q ∧
      r.formed = s.clock.period ∧ (t.captureUnit u).lastLevel = some r.level ∧ (t.captureUnit u).keepalive = 0

/-- R166, R174: the switches. A port that delivers a complete frame is framed, and one that was framed and does not is unframed with
INPUT FAULT latched, in periods that pass; REPORT CONTROL sets the switches its mask names. Nothing else changes. -/
def Obligations.PortFramingAndReportControlSwitch : Prop :=
  (∀ (p : PortNo) (s : State), s.clock.start = .passing ∨ s.clock.start = .joined →
    exec (.inputFramingGained p) s = .next { s with clock.ports := s.clock.ports.set p true } ∧
    (s.clock.ports[p] = true →
      exec (.inputFramingLost p) s = .next ({ s with clock.ports := s.clock.ports.set p false }.latchNode .inputFault)) ∧
    (s.clock.ports[p] = false → exec (.inputFramingLost p) s = .next s)) ∧
  ∀ (source : Member) (f : ReportControlFields) (s : State), s.Acts source →
    exec (.reportControl source f) s = .next { s with
      reports.metersOn := if f.mask.getLsbD 0 then f.meters != 0#8 else s.reports.metersOn
      reports.inhibited := if f.mask.getLsbD 1 then f.notices != 0#8 else s.reports.inhibited }

/-! ### Meters, notices and the refresh walk -/

/-- R58, R76, R162, R163: a meter event. In PASSING, or with meters off, only the timer's count restarts. Otherwise the blocks are judged
in order, strips 0 to 3 and then the anchors eight to a block: each is queued for the report member while at least 4 entries are free,
with the code floor(P / 512) of each peak, and its peaks are cleared; the others keep theirs. -/
def Obligations.MeterEventReportsAndClearsPeaks : Prop :=
  ∀ s : State, s.clock.start = .passing ∨ s.clock.start = .joined → s.clock.profile.meter ≤ s.reports.meterCount →
    (s.clock.start = .passing ∨ s.reports.metersOn = false →
      exec .meterEvent s = .next { s with reports.meterCount := 0 }) ∧
    (s.clock.start = .joined → s.reports.metersOn = true →
      ∃ t, exec .meterEvent s = .next t ∧
        t = { s with
          engine.strips := t.engine.strips
          outputs.anchors := t.outputs.anchors
          message.outbound := t.message.outbound
          reports.meterCount := 0 } ∧
        ∀ (queued : Nat) (strips anchors : List OutMsg),
          queued = min (4 + (s.outputs.anchors.length + 7) / 8) (29 - s.message.outbound.length) →
          strips = ((List.range 4).map fun b =>
            { dest := memberByte s.clock.profile.reportMember
              body := .meter false b
                (((s.engine.strips.toList.drop (8 * b)).take 8).map fun st => min 65535 (st.peak / 512)) }) →
          anchors = ((List.range ((s.outputs.anchors.length + 7) / 8)).map fun b =>
            { dest := memberByte s.clock.profile.reportMember
              body := .meter true b
                (((s.outputs.anchors.drop (8 * b)).take 8).map fun a => min 65535 (a.peak / 512)) }) →
          t.message.outbound = s.message.outbound ++ (strips ++ anchors).take queued ∧
          (∀ n : StripNo, t.strip n =
            if n.val / 8 < queued then { s.strip n with peak := 0 } else s.strip n) ∧
          t.outputs.anchors.length = s.outputs.anchors.length ∧
          ∀ (m : Nat) (a : Anchor), s.outputs.anchors[m]? = some a →
            t.outputs.anchors[m]? = some (if 4 + m / 8 < queued then { a with peak := 0 } else a))

/-- R130, R131, R144, R165: what one JOINED period hands over. A scanner visit, unless notices are inhibited, advances the scan position
from 64 back to 0, and sends and clears a vector that holds events where at least 4 entries are free. A turn of the refresh walk, with as
many free, takes the first pending mark: a strip's sends a SOLO REFRESH, and a group's, once no strip is marked, a GROUP CLAIM where this
node leads it. With fewer free entries no vector is cleared and no mark taken.
That a period has one visit and one turn is kept by flags of the model's (log entry 3). -/
def Obligations.ScannerAndWalkNeedFourFreeEntries : Prop :=
  (∀ (src : SourceNo) (v : EventVector) (s visited : State), s.clock.start = .joined → s.reports.inhibited = false →
    s.clock.taken.visited = false → src = s.reports.scan → v = s.reports.vectors[src] →
    visited = { s with reports.scan := Fin.ofNat 65 (src.val + 1), clock.taken.visited := true } →
    (v.events = 0#24 ∨ 29 ≤ s.message.outbound.length → exec .scannerVisit s = .next visited) ∧
    (v.events ≠ 0#24 → s.message.outbound.length ≤ 28 →
      exec .scannerVisit s = .next { visited with
        message.outbound := s.message.outbound ++
          [{ dest := memberByte s.clock.profile.reportMember, body := .notice src v.events v.count }]
        reports.vectors := s.reports.vectors.set src { events := 0#24, count := 0 } })) ∧
  ∀ (s turned : State), s.clock.start = .joined → s.clock.taken.walked = false →
    turned = { s with clock.taken.walked := true } →
    (29 ≤ s.message.outbound.length → exec .refreshWalkTurn s = .next turned) ∧
    (s.message.outbound.length ≤ 28 →
      (∀ n : StripNo, s.census.marks[n] = true → (∀ lower : StripNo, lower < n → s.census.marks[lower] = false) →
        exec .refreshWalkTurn s =
          .next ({ turned with census.marks := s.census.marks.set n false }.announce (.soloRefresh n))) ∧
      ((∀ n : StripNo, s.census.marks[n] = false) →
        ((∀ g : GroupNo, (s.group g).mark = false) → exec .refreshWalkTurn s = .next turned) ∧
        ∀ g : GroupNo, (s.group g).mark = true → (∀ lower : GroupNo, lower < g → (s.group lower).mark = false) →
          (∀ n : StripNo, (s.group g).lead = some { member := s.clock.member, strip := n } →
            exec .refreshWalkTurn s =
              .next ((turned.setGroup g { s.group g with mark := false }).announce (.claim g n))) ∧
          ((∀ k ∈ (s.group g).lead, k.member ≠ s.clock.member) →
            exec .refreshWalkTurn s = .next (turned.setGroup g { s.group g with mark := false }))))

/-! ### Commands, answers and the outbound queue -/

/-- R92 to R96: a message offered to the outbound queue. A SOLO ON or SOLO OFF replaces the solo message queued for its strip, a SOLO
REFRESH is skipped beside one, a GROUP CLAIM or GROUP RELEASE replaces the one queued for its group and lead, and a GROUP DELTA is added
into the one queued, within −1560…+1560. Without a like message it joins the tail, or is dropped where 32 are queued: counted, with
OUTBOUND DROP latched. -/
def Obligations.OfferedMessagesReplaceJoinOrDrop : Prop :=
  ∀ (m : OutMsg) (s : State) (q : List OutMsg), q = s.message.outbound →
    (∀ (front back : List OutMsg) (x : OutMsg), q = front ++ x :: back →
      (∀ n : StripNo, x.isSolo n = true → (∀ y ∈ front, y.isSolo n = false) →
        (m.body = .soloOn n ∨ m.body = .soloOff n →
          s.offer m = { s with message.outbound := front ++ m :: back }) ∧
        (m.body = .soloRefresh n → s.offer m = s)) ∧
      (∀ (g : GroupNo) (n : StripNo), x.isLead g n = true → (∀ y ∈ front, y.isLead g n = false) →
        m.body = .claim g n ∨ m.body = .release g n →
        s.offer m = { s with message.outbound := front ++ m :: back }) ∧
      ∀ (g : GroupNo) (n : StripNo) (change queued : Int), x.body = .delta g n queued →
        (∀ y ∈ front, y.isDelta g n = false) → m.body = .delta g n change →
        s.offer m = { s with
          message.outbound :=
            front ++ { x with body := .delta g n (max (-1560) (min 1560 (queued + change))) } :: back }) ∧
    ((∀ y ∈ q, ∀ (g : GroupNo) (n : StripNo), (m.isSolo n = true → y.isSolo n = false) ∧
        (m.isLead g n = true → y.isLead g n = false) ∧ (m.isDelta g n = true → y.isDelta g n = false)) →
      (q.length < 32 → s.offer m = { s with message.outbound := q ++ [m] }) ∧
      (32 ≤ q.length → s.offer m = { s with
        message.counters.outboundDrop := min 65535 (s.message.counters.outboundDrop + 1) }.latchNode .outboundDrop))

/-- R98, with R24, R80, R106, R132, R146 and R161: a QUERY that names an object. Where the queue has room for every part of its answer
the parts join the tail in order, each numbered, for the query's source, and nothing else changes, but for the node counters, which an
answered COUNTERS with the clear flag sets to 0 after taking them; otherwise it is refused with BUSY and its clear flag is not acted on.
The answers by their fields: STRIP and an anchored lane as the named reports, in three and two parts (which part carries which field, and
in which bytes, is left open: log entry 7); CUES the list in order, two to a part; CENSUS the summary and then the Current table's keys in
home-index order, twelve to a part, the unused key places of the last emitted as 0; GROUP the entry, members and waiters; CAPTURE the unit
and its end record; COUNTERS the counters, the upstream member and the two occupancies. -/
def Obligations.QueriesAreAnsweredWholeOrRefusedBusy : Prop :=
  (∀ s : State,
    (∀ (n : StripNo) (a : Strip), a = s.strip n → s.stripShares n = [1, 2, 3].map fun part => .strip part
      { number := n, trim := a.trim, mode := a.mode, live := a.live, auto := a.auto, touched := a.touched
        latched := a.latched, linkGroup := a.linkGroup, offset := a.offset, cut := a.cut, mutes := a.mutes
        soloed := a.soloed, safe := a.safe, glide := a.glide, placement := a.placement, staged := a.staged
        incoming := a.incoming, swapPending := a.swapPending, binding := a.binding } s.engine.activeMutes) ∧
    (∀ n : StripNo, (s.cueList n = [] → s.cueShares n = [.cues []]) ∧
      (s.cueList n ≠ [] → ∃ parts : List (List Cue), s.cueShares n = parts.map .cues ∧ parts.flatten = s.cueList n ∧
        (∀ p ∈ parts, p ≠ []) ∧ ∀ (front : List (List Cue)) (last : List Cue), parts = front ++ [last] →
          last.length ≤ 2 ∧ ∀ p ∈ front, p.length = 2)) ∧
    (∃ parts : List (List Key), s.censusShares = .censusSummary
        { roles := s.census.roles
          currentPopulation := (s.table s.census.roles.current).keys.length
          nextPopulation := (s.table s.census.roles.next).keys.length
          freeDepths := [(s.table 0).free.length, (s.table 1).free.length, (s.table 2).free.length]
          clearing := s.census.clearing, held := s.census.held, agingCount := s.census.agingCount
          agingInterval := s.clock.profile.aging, localSolo := s.census.localSolo
          soloActive := s.census.soloActive } :: parts.map .censusKeys ∧
      parts.flatten = (List.finRange 128).flatMap (fun i => homeKeys (s.table s.census.roles.current).home[i]) ∧
      parts.length = ((s.table s.census.roles.current).keys.length + 11) / 12 ∧
      ∀ (front : List (List Key)) (last : List Key), parts = front ++ [last] →
        last.length ≤ 12 ∧ ∀ p ∈ front, p.length = 12) ∧
    (∀ g : GroupNo, s.groupReport g =
      { group := g, lead := (s.group g).lead
        isLocal := match (s.group g).lead with
          | none => false
          | some k => decide (k.member = s.clock.member)
        silent := (s.group g).silent, mark := (s.group g).mark
        members := (List.finRange 32).filter fun n => (s.strip n).linkGroup = some g
        waiters := (List.finRange 32).filter fun n => decide ((s.strip n).linkGroup = some g) && (s.strip n).touched &&
          decide ((s.strip n).mode ≠ .read) && decide ((s.group g).lead ≠ some { member := s.clock.member, strip := n }) }) ∧
    (∀ (u : UnitNo) (c : CaptureUnit), c = s.captureUnit u → c.shares =
      [.captureUnit { state := c.state, bound := c.bound, settings := c.settings, buffered := c.buffer.length
                      marks := c.marks, recordsSent := c.recordsSent, overruns := c.overruns, conditions := c.conditions
                      keepalive := c.keepalive, lastLevel := c.lastLevel },
       .captureEnd c.endRecord]) ∧
    (∀ lane : LaneNo, ((∀ a ∈ s.outputs.anchors, a.lane ≠ lane) → s.anchorShares lane = [.anchor 1 lane none]) ∧
      ∀ (before after : List Anchor) (a : Anchor), s.outputs.anchors = before ++ a :: after → a.lane = lane →
        (∀ x ∈ before, x.lane ≠ lane) → ∀ report : AnchorReport,
          report = { number := before.length, slot := a.slot, state := a.state, settledAge := a.settledAge
                     outputDelay := a.settledAge.map fun age => s.clock.profile.latency - 1 - 2 * (age.val + 1)
                     pendingAge := a.pendingAge, candidateAge := a.candidateAge, candidateRun := a.candidateRun
                     badRun := a.badRun, faulted := a.faulted, level := a.level, mute := a.mute
                     appliedMaster := a.ramp.applied, masterTarget := a.ramp.target, lastWritten := a.lastWritten } →
          s.anchorShares lane = [.anchor 1 lane (some report), .anchor 2 lane (some report)]) ∧
    s.countersReport = { counters := s.message.counters, upstream := s.port.upstream
                         queued := s.message.outbound.length, inFlight := s.message.inFlight.length }) ∧
  (∀ (item object : Byte) (part parts : Nat) (keys : List Key) (k : Nat), k < 24 →
    keys.length ≤ Config.keyPlace k →
    byteAt (Body.reply item object part parts (.censusKeys keys)).bytes (4 + k) = 0#8) ∧
  ∀ (source : Member) (object clear : Byte) (i : Instr) (item : Byte) (shares : List ReplyShare) (s : State),
    s.Acts source →
    (i = .queryStrip source object clear ∧ item = 1#8 ∧ ∃ n : StripNo, object.toNat = n.val ∧ shares = s.stripShares n) ∨
      (i = .queryCues source object clear ∧ item = 2#8 ∧ ∃ n : StripNo, object.toNat = n.val ∧ shares = s.cueShares n) ∨
      (i = .queryCensus source object clear ∧ item = 3#8 ∧ shares = s.censusShares) ∨
      (i = .queryGroup source object clear ∧ item = 4#8 ∧
        ∃ g : GroupNo, object.toNat = g.val + 1 ∧ shares = [.group (s.groupReport g)]) ∨
      (i = .queryCapture source object clear ∧ item = 5#8 ∧
        ∃ u : UnitNo, object.toNat = u.val ∧ shares = (s.captureUnit u).shares) ∨
      (i = .queryAnchor source object clear ∧ item = 6#8 ∧
        ∃ lane : LaneNo, object.toNat = lane.val ∧ shares = s.anchorShares lane) ∨
      (i = .queryCounters source object clear ∧ item = 7#8 ∧ shares = [.counters s.countersReport]) →
    (s.message.outbound.length + shares.length ≤ 32 → exec i s = .next { s with
      message.outbound := s.message.outbound ++ shares.mapIdx fun part share =>
        { dest := memberByte source, body := .reply item object (part + 1) shares.length share }
      message.counters := if item = 7#8 ∧ clear ≠ 0#8 then Counters.zero else s.message.counters }) ∧
    (32 < s.message.outbound.length + shares.length → exec i s = .next (s.refuse source 0x1E#8 object .busy))

/-- R26, R36, R85, R97, R98, R102, R104, R107, R114, R117, R120, R156 to R158 and section 8.4: which object a command names. A message command in a
node that is not JOINED, or with this node's own number as its source, is not acted on: it changes nothing and is not refused (log
entry 17). A strip, unit or object field that names none is refused with MALFORMED, and so is a STRIP SET whose mode
is none of the four; an announcement with such a field is discarded. A strip field of 255 in STRIP SET, CUE FLUSH and SOLO is the command
for strip 0, then strip 1, to strip 31. -/
def Obligations.CommandsNameOneObjectAllStripsOrNone : Prop :=
  (∀ (source : Member) (kind : Byte) (p : List Byte) (c : Instr) (s : State), ¬s.Acts source →
    commandOf source kind p = some c → exec c s = .next s) ∧
  (∀ (source : Member) (field x y : Byte) (carried : BitVec 16) (s : State), s.Acts source →
    (32 ≤ field.toNat →
      (∀ f : PlaceFields, f.strip = field →
        exec (.place source f) s = .next (s.refuse source 0x11#8 field .malformed)) ∧
      (∀ f : CueFields, f.strip = field →
        exec (.cue source f) s = .next (s.refuse source 0x12#8 field .malformed)) ∧
      exec (.touch source field x) s = .next (s.refuse source 0x14#8 field .malformed) ∧
      exec (.fader source field carried) s = .next (s.refuse source 0x15#8 field .malformed) ∧
      exec (.queryStrip source field x) s = .next (s.refuse source 0x1E#8 field .malformed) ∧
      exec (.queryCues source field x) s = .next (s.refuse source 0x1E#8 field .malformed) ∧
      exec (.soloOn source field) s = .next s ∧ exec (.soloRefresh source field) s = .next s ∧
      exec (.soloOff source field) s = .next s) ∧
    (32 ≤ field.toNat → field ≠ 255#8 →
      (∀ f : StripSetFields, f.strip = field →
        exec (.stripSet source f) s = .next (s.refuse source 0x10#8 field .malformed)) ∧
      exec (.cueFlush source field) s = .next (s.refuse source 0x13#8 field .malformed) ∧
      exec (.solo source field x) s = .next (s.refuse source 0x16#8 field .malformed)) ∧
    (∀ f : StripSetFields, f.mask.getLsbD 2 = true → 4 ≤ f.mode.toNat →
      exec (.stripSet source f) s = .next (s.refuse source 0x10#8 f.strip .malformed)) ∧
    (4 ≤ field.toNat →
      exec (.captureStop source field) s = .next (s.refuse source 0x19#8 field .malformed) ∧
      exec (.captureSuspend source field) s = .next (s.refuse source 0x1A#8 field .malformed) ∧
      exec (.captureResume source field) s = .next (s.refuse source 0x1B#8 field .malformed) ∧
      exec (.captureClear source field) s = .next (s.refuse source 0x1C#8 field .malformed) ∧
      exec (.queryCapture source field x) s = .next (s.refuse source 0x1E#8 field .malformed)) ∧
    (field = 0#8 ∨ 33 ≤ field.toNat →
      exec (.queryGroup source field x) s = .next (s.refuse source 0x1E#8 field .malformed)) ∧
    (64 ≤ field.toNat → exec (.queryAnchor source field x) s = .next (s.refuse source 0x1E#8 field .malformed)) ∧
    (field = 0#8 ∨ 33 ≤ field.toNat ∨ 32 ≤ y.toNat →
      exec (.groupClaim source field y) s = .next s ∧ exec (.groupRelease source field y) s = .next s ∧
      exec (.groupDelta source field y carried) s = .next s)) ∧
  ∀ (source : Member) (x : Byte) (f : StripSetFields) (s : State), s.Acts source → f.strip = 255#8 →
    (f.mask.getLsbD 2 = true → f.mode.toNat < 4) →
    ∀ command : Byte → Instr,
      (command = fun strip => .stripSet source { f with strip }) ∨ command = Instr.cueFlush source ∨
        (command = fun strip => .solo source strip x) →
      exec (command 255#8) s = (List.finRange 32).foldl (fun (answer : Host.Outcome State Fault Refusal) n =>
        match answer with
        | .next t => exec (command (stripByte n)) t
        | other => other) (.next s)

/-! ### What every step keeps

Each invariant is kept by a step from every state that has it, not only from those a run reaches. -/

/-- R14, R24, R36, R46, R58, R60, R105, R106: every strip record stays within its ranges, every cue list within 16 cues in strictly
increasing position order, and every contribution within one node's reach. -/
def Obligations.EveryStepKeepsStripsCuesAndSumsInRange : Prop :=
  ∀ s t : State, s.StripsSound → s.CuesSound → s.adder.Sound → step s = .next t →
    t.StripsSound ∧ t.CuesSound ∧ t.adder.Sound

/-- R44, R45, R119: the ramp target of every strip stays what its fields, solo active and the active mute groups give; solo active stays
what its two terms make it, and the local solo count the number of soloed strips. -/
def Obligations.EveryStepKeepsTargetsAndSoloActive : Prop :=
  ∀ s t : State, s.TargetsSound → s.SoloSound → step s = .next t → t.TargetsSound ∧ t.SoloSound

/-- R87, R92 to R96: the outbound queue and the in-flight list stay within their sizes, with at most one solo message for each strip and
one claim or release and one delta for each group and lead strip. -/
def Obligations.EveryStepKeepsTheQueuesSound : Prop :=
  ∀ s t : State, s.QueuesSound → step s = .next t → t.QueuesSound

/-- R120 to R124, R127 to R129: the link entries of each census table stay partitioned between its chains and its free stack, every key at
its home once and none of this node, the three roles apart, and what clearing has taken vacant. -/
def Obligations.EveryStepKeepsTheCensusTablesSound : Prop :=
  ∀ s t : State, s.CensusSound → step s = .next t → t.CensusSound

/-- R134: a local lead stays a touched member of its group in a mode other than READ, and the silent count 0 or 1, and 0 without a remote
lead. -/
def Obligations.EveryStepKeepsLocalLeadsTouched : Prop :=
  ∀ s t : State, s.LeadsSound → step s = .next t → t.LeadsSound

/-- R147, R148, R153: a capture unit stays bound exactly in ARMED, WRITING and SUSPENDED, strips and units say the same of every binding,
and buffers stay within 16 records. -/
def Obligations.EveryStepKeepsCapturesBoundOneToOne : Prop :=
  ∀ s t : State, s.CapturesSound → step s = .next t → t.CapturesSound

/-- R63 to R66, R68 to R78: anchors stay on lanes and slots of their own, each with the ages, ramp and target its output state calls for,
SILENT while the node is not JOINED, and every output slot carries a 24-bit sample. -/
def Obligations.EveryStepKeepsTheAnchorsSound : Prop :=
  ∀ s t : State, s.AnchorsSound → step s = .next t → t.AnchorsSound

/-- The invariants above hold in the state right after power reset. -/
def Obligations.ResetHasEveryInvariant : Prop :=
  State.reset.StripsSound ∧ State.reset.CuesSound ∧ State.reset.adder.Sound ∧ State.reset.TargetsSound ∧
  State.reset.SoloSound ∧ State.reset.QueuesSound ∧ State.reset.CensusSound ∧ State.reset.LeadsSound ∧
  State.reset.CapturesSound ∧ State.reset.AnchorsSound
end

