-- ==== Sys2Proof/Laws/State.lean ====
section
/-! SUPPORT. One lemma for each field that a named update leaves as it was, and for what reading back an updated entry gives. -/

namespace Sys2Proof.Machine

open Sys2Proof

variable (s : State)

/-! ### setStrip -/

@[simp] theorem State.setStrip_clock (n : StripNo) (st : Strip) : (s.setStrip n st).clock = s.clock := rfl
@[simp] theorem State.setStrip_port (n : StripNo) (st : Strip) : (s.setStrip n st).port = s.port := rfl
@[simp] theorem State.setStrip_adder (n : StripNo) (st : Strip) : (s.setStrip n st).adder = s.adder := rfl
@[simp] theorem State.setStrip_cues (n : StripNo) (st : Strip) : (s.setStrip n st).cues = s.cues := rfl
@[simp] theorem State.setStrip_message (n : StripNo) (st : Strip) : (s.setStrip n st).message = s.message := rfl
@[simp] theorem State.setStrip_census (n : StripNo) (st : Strip) : (s.setStrip n st).census = s.census := rfl
@[simp] theorem State.setStrip_groups (n : StripNo) (st : Strip) : (s.setStrip n st).groups = s.groups := rfl
@[simp] theorem State.setStrip_units (n : StripNo) (st : Strip) : (s.setStrip n st).units = s.units := rfl
@[simp] theorem State.setStrip_outputs (n : StripNo) (st : Strip) : (s.setStrip n st).outputs = s.outputs := rfl
@[simp] theorem State.setStrip_reports (n : StripNo) (st : Strip) : (s.setStrip n st).reports = s.reports := rfl
@[simp] theorem State.setStrip_pending (n : StripNo) (st : Strip) : (s.setStrip n st).pending = s.pending := rfl
@[simp] theorem State.setStrip_engine_activeMutes (n : StripNo) (st : Strip) :
    (s.setStrip n st).engine.activeMutes = s.engine.activeMutes := rfl

/-! ### mapStrips -/

@[simp] theorem State.mapStrips_clock (f : StripNo → Strip → Strip) : (s.mapStrips f).clock = s.clock := by simp only [State.mapStrips]
@[simp] theorem State.mapStrips_port (f : StripNo → Strip → Strip) : (s.mapStrips f).port = s.port := by simp only [State.mapStrips]
@[simp] theorem State.mapStrips_adder (f : StripNo → Strip → Strip) : (s.mapStrips f).adder = s.adder := by simp only [State.mapStrips]
@[simp] theorem State.mapStrips_cues (f : StripNo → Strip → Strip) : (s.mapStrips f).cues = s.cues := by simp only [State.mapStrips]
@[simp] theorem State.mapStrips_message (f : StripNo → Strip → Strip) : (s.mapStrips f).message = s.message := by simp only [State.mapStrips]
@[simp] theorem State.mapStrips_census (f : StripNo → Strip → Strip) : (s.mapStrips f).census = s.census := by simp only [State.mapStrips]
@[simp] theorem State.mapStrips_groups (f : StripNo → Strip → Strip) : (s.mapStrips f).groups = s.groups := by simp only [State.mapStrips]
@[simp] theorem State.mapStrips_units (f : StripNo → Strip → Strip) : (s.mapStrips f).units = s.units := by simp only [State.mapStrips]
@[simp] theorem State.mapStrips_outputs (f : StripNo → Strip → Strip) : (s.mapStrips f).outputs = s.outputs := by simp only [State.mapStrips]
@[simp] theorem State.mapStrips_reports (f : StripNo → Strip → Strip) : (s.mapStrips f).reports = s.reports := by simp only [State.mapStrips]
@[simp] theorem State.mapStrips_pending (f : StripNo → Strip → Strip) : (s.mapStrips f).pending = s.pending := by simp only [State.mapStrips]
@[simp] theorem State.mapStrips_engine_activeMutes (f : StripNo → Strip → Strip) :
    (s.mapStrips f).engine.activeMutes = s.engine.activeMutes := by simp only [State.mapStrips]

/-! ### latch -/

@[simp] theorem State.latch_clock (src : SourceNo) (e : NoticeEvent) : (s.latch src e).clock = s.clock := rfl
@[simp] theorem State.latch_port (src : SourceNo) (e : NoticeEvent) : (s.latch src e).port = s.port := rfl
@[simp] theorem State.latch_adder (src : SourceNo) (e : NoticeEvent) : (s.latch src e).adder = s.adder := rfl
@[simp] theorem State.latch_engine (src : SourceNo) (e : NoticeEvent) : (s.latch src e).engine = s.engine := rfl
@[simp] theorem State.latch_cues (src : SourceNo) (e : NoticeEvent) : (s.latch src e).cues = s.cues := rfl
@[simp] theorem State.latch_message (src : SourceNo) (e : NoticeEvent) : (s.latch src e).message = s.message := rfl
@[simp] theorem State.latch_census (src : SourceNo) (e : NoticeEvent) : (s.latch src e).census = s.census := rfl
@[simp] theorem State.latch_groups (src : SourceNo) (e : NoticeEvent) : (s.latch src e).groups = s.groups := rfl
@[simp] theorem State.latch_units (src : SourceNo) (e : NoticeEvent) : (s.latch src e).units = s.units := rfl
@[simp] theorem State.latch_outputs (src : SourceNo) (e : NoticeEvent) : (s.latch src e).outputs = s.outputs := rfl
@[simp] theorem State.latch_pending (src : SourceNo) (e : NoticeEvent) : (s.latch src e).pending = s.pending := rfl
@[simp] theorem State.latch_reports_meterCount (src : SourceNo) (e : NoticeEvent) :
    (s.latch src e).reports.meterCount = s.reports.meterCount := rfl
@[simp] theorem State.latch_reports_metersOn (src : SourceNo) (e : NoticeEvent) :
    (s.latch src e).reports.metersOn = s.reports.metersOn := rfl
@[simp] theorem State.latch_reports_inhibited (src : SourceNo) (e : NoticeEvent) :
    (s.latch src e).reports.inhibited = s.reports.inhibited := rfl
@[simp] theorem State.latch_reports_scan (src : SourceNo) (e : NoticeEvent) :
    (s.latch src e).reports.scan = s.reports.scan := rfl

/-! ### latchNode -/

@[simp] theorem State.latchNode_clock (e : NoticeEvent) : (s.latchNode e).clock = s.clock := rfl
@[simp] theorem State.latchNode_port (e : NoticeEvent) : (s.latchNode e).port = s.port := rfl
@[simp] theorem State.latchNode_adder (e : NoticeEvent) : (s.latchNode e).adder = s.adder := rfl
@[simp] theorem State.latchNode_engine (e : NoticeEvent) : (s.latchNode e).engine = s.engine := rfl
@[simp] theorem State.latchNode_cues (e : NoticeEvent) : (s.latchNode e).cues = s.cues := rfl
@[simp] theorem State.latchNode_message (e : NoticeEvent) : (s.latchNode e).message = s.message := rfl
@[simp] theorem State.latchNode_census (e : NoticeEvent) : (s.latchNode e).census = s.census := rfl
@[simp] theorem State.latchNode_groups (e : NoticeEvent) : (s.latchNode e).groups = s.groups := rfl
@[simp] theorem State.latchNode_units (e : NoticeEvent) : (s.latchNode e).units = s.units := rfl
@[simp] theorem State.latchNode_outputs (e : NoticeEvent) : (s.latchNode e).outputs = s.outputs := rfl
@[simp] theorem State.latchNode_pending (e : NoticeEvent) : (s.latchNode e).pending = s.pending := rfl
@[simp] theorem State.latchNode_reports_meterCount (e : NoticeEvent) :
    (s.latchNode e).reports.meterCount = s.reports.meterCount := rfl
@[simp] theorem State.latchNode_reports_metersOn (e : NoticeEvent) :
    (s.latchNode e).reports.metersOn = s.reports.metersOn := rfl
@[simp] theorem State.latchNode_reports_inhibited (e : NoticeEvent) :
    (s.latchNode e).reports.inhibited = s.reports.inhibited := rfl
@[simp] theorem State.latchNode_reports_scan (e : NoticeEvent) :
    (s.latchNode e).reports.scan = s.reports.scan := rfl

/-! ### latchStrips -/

@[simp] theorem State.latchStrips_clock (f : StripNo → List NoticeEvent) : (s.latchStrips f).clock = s.clock := by simp only [State.latchStrips]
@[simp] theorem State.latchStrips_port (f : StripNo → List NoticeEvent) : (s.latchStrips f).port = s.port := by simp only [State.latchStrips]
@[simp] theorem State.latchStrips_adder (f : StripNo → List NoticeEvent) : (s.latchStrips f).adder = s.adder := by simp only [State.latchStrips]
@[simp] theorem State.latchStrips_engine (f : StripNo → List NoticeEvent) : (s.latchStrips f).engine = s.engine := by simp only [State.latchStrips]
@[simp] theorem State.latchStrips_cues (f : StripNo → List NoticeEvent) : (s.latchStrips f).cues = s.cues := by simp only [State.latchStrips]
@[simp] theorem State.latchStrips_message (f : StripNo → List NoticeEvent) : (s.latchStrips f).message = s.message := by simp only [State.latchStrips]
@[simp] theorem State.latchStrips_census (f : StripNo → List NoticeEvent) : (s.latchStrips f).census = s.census := by simp only [State.latchStrips]
@[simp] theorem State.latchStrips_groups (f : StripNo → List NoticeEvent) : (s.latchStrips f).groups = s.groups := by simp only [State.latchStrips]
@[simp] theorem State.latchStrips_units (f : StripNo → List NoticeEvent) : (s.latchStrips f).units = s.units := by simp only [State.latchStrips]
@[simp] theorem State.latchStrips_outputs (f : StripNo → List NoticeEvent) : (s.latchStrips f).outputs = s.outputs := by simp only [State.latchStrips]
@[simp] theorem State.latchStrips_pending (f : StripNo → List NoticeEvent) : (s.latchStrips f).pending = s.pending := by simp only [State.latchStrips]
@[simp] theorem State.latchStrips_reports_meterCount (f : StripNo → List NoticeEvent) :
    (s.latchStrips f).reports.meterCount = s.reports.meterCount := by simp only [State.latchStrips]
@[simp] theorem State.latchStrips_reports_metersOn (f : StripNo → List NoticeEvent) :
    (s.latchStrips f).reports.metersOn = s.reports.metersOn := by simp only [State.latchStrips]
@[simp] theorem State.latchStrips_reports_inhibited (f : StripNo → List NoticeEvent) :
    (s.latchStrips f).reports.inhibited = s.reports.inhibited := by simp only [State.latchStrips]
@[simp] theorem State.latchStrips_reports_scan (f : StripNo → List NoticeEvent) :
    (s.latchStrips f).reports.scan = s.reports.scan := by simp only [State.latchStrips]

/-! ### latchAnchors -/

@[simp] theorem State.latchAnchors_clock (f : Nat → List NoticeEvent) : (s.latchAnchors f).clock = s.clock := by simp only [State.latchAnchors]
@[simp] theorem State.latchAnchors_port (f : Nat → List NoticeEvent) : (s.latchAnchors f).port = s.port := by simp only [State.latchAnchors]
@[simp] theorem State.latchAnchors_adder (f : Nat → List NoticeEvent) : (s.latchAnchors f).adder = s.adder := by simp only [State.latchAnchors]
@[simp] theorem State.latchAnchors_engine (f : Nat → List NoticeEvent) : (s.latchAnchors f).engine = s.engine := by simp only [State.latchAnchors]
@[simp] theorem State.latchAnchors_cues (f : Nat → List NoticeEvent) : (s.latchAnchors f).cues = s.cues := by simp only [State.latchAnchors]
@[simp] theorem State.latchAnchors_message (f : Nat → List NoticeEvent) : (s.latchAnchors f).message = s.message := by simp only [State.latchAnchors]
@[simp] theorem State.latchAnchors_census (f : Nat → List NoticeEvent) : (s.latchAnchors f).census = s.census := by simp only [State.latchAnchors]
@[simp] theorem State.latchAnchors_groups (f : Nat → List NoticeEvent) : (s.latchAnchors f).groups = s.groups := by simp only [State.latchAnchors]
@[simp] theorem State.latchAnchors_units (f : Nat → List NoticeEvent) : (s.latchAnchors f).units = s.units := by simp only [State.latchAnchors]
@[simp] theorem State.latchAnchors_outputs (f : Nat → List NoticeEvent) : (s.latchAnchors f).outputs = s.outputs := by simp only [State.latchAnchors]
@[simp] theorem State.latchAnchors_pending (f : Nat → List NoticeEvent) : (s.latchAnchors f).pending = s.pending := by simp only [State.latchAnchors]
@[simp] theorem State.latchAnchors_reports_meterCount (f : Nat → List NoticeEvent) :
    (s.latchAnchors f).reports.meterCount = s.reports.meterCount := by simp only [State.latchAnchors]
@[simp] theorem State.latchAnchors_reports_metersOn (f : Nat → List NoticeEvent) :
    (s.latchAnchors f).reports.metersOn = s.reports.metersOn := by simp only [State.latchAnchors]
@[simp] theorem State.latchAnchors_reports_inhibited (f : Nat → List NoticeEvent) :
    (s.latchAnchors f).reports.inhibited = s.reports.inhibited := by simp only [State.latchAnchors]
@[simp] theorem State.latchAnchors_reports_scan (f : Nat → List NoticeEvent) :
    (s.latchAnchors f).reports.scan = s.reports.scan := by simp only [State.latchAnchors]

/-! ### count -/

@[simp] theorem State.count_clock (f : Counters → Counters) : (s.count f).clock = s.clock := rfl
@[simp] theorem State.count_port (f : Counters → Counters) : (s.count f).port = s.port := rfl
@[simp] theorem State.count_adder (f : Counters → Counters) : (s.count f).adder = s.adder := rfl
@[simp] theorem State.count_engine (f : Counters → Counters) : (s.count f).engine = s.engine := rfl
@[simp] theorem State.count_cues (f : Counters → Counters) : (s.count f).cues = s.cues := rfl
@[simp] theorem State.count_census (f : Counters → Counters) : (s.count f).census = s.census := rfl
@[simp] theorem State.count_groups (f : Counters → Counters) : (s.count f).groups = s.groups := rfl
@[simp] theorem State.count_units (f : Counters → Counters) : (s.count f).units = s.units := rfl
@[simp] theorem State.count_outputs (f : Counters → Counters) : (s.count f).outputs = s.outputs := rfl
@[simp] theorem State.count_reports (f : Counters → Counters) : (s.count f).reports = s.reports := rfl
@[simp] theorem State.count_pending (f : Counters → Counters) : (s.count f).pending = s.pending := rfl
@[simp] theorem State.count_message_outbound (f : Counters → Counters) :
    (s.count f).message.outbound = s.message.outbound := rfl
@[simp] theorem State.count_message_inFlight (f : Counters → Counters) :
    (s.count f).message.inFlight = s.message.inFlight := rfl
@[simp] theorem State.count_message_quiet (f : Counters → Counters) :
    (s.count f).message.quiet = s.message.quiet := rfl

/-! ### setGroup -/

@[simp] theorem State.setGroup_clock (g : GroupNo) (e : GroupEntry) : (s.setGroup g e).clock = s.clock := rfl
@[simp] theorem State.setGroup_port (g : GroupNo) (e : GroupEntry) : (s.setGroup g e).port = s.port := rfl
@[simp] theorem State.setGroup_adder (g : GroupNo) (e : GroupEntry) : (s.setGroup g e).adder = s.adder := rfl
@[simp] theorem State.setGroup_engine (g : GroupNo) (e : GroupEntry) : (s.setGroup g e).engine = s.engine := rfl
@[simp] theorem State.setGroup_cues (g : GroupNo) (e : GroupEntry) : (s.setGroup g e).cues = s.cues := rfl
@[simp] theorem State.setGroup_message (g : GroupNo) (e : GroupEntry) : (s.setGroup g e).message = s.message := rfl
@[simp] theorem State.setGroup_census (g : GroupNo) (e : GroupEntry) : (s.setGroup g e).census = s.census := rfl
@[simp] theorem State.setGroup_units (g : GroupNo) (e : GroupEntry) : (s.setGroup g e).units = s.units := rfl
@[simp] theorem State.setGroup_outputs (g : GroupNo) (e : GroupEntry) : (s.setGroup g e).outputs = s.outputs := rfl
@[simp] theorem State.setGroup_reports (g : GroupNo) (e : GroupEntry) : (s.setGroup g e).reports = s.reports := rfl
@[simp] theorem State.setGroup_pending (g : GroupNo) (e : GroupEntry) : (s.setGroup g e).pending = s.pending := rfl

/-! ### setUnit -/

@[simp] theorem State.setUnit_clock (u : UnitNo) (c : CaptureUnit) : (s.setUnit u c).clock = s.clock := rfl
@[simp] theorem State.setUnit_port (u : UnitNo) (c : CaptureUnit) : (s.setUnit u c).port = s.port := rfl
@[simp] theorem State.setUnit_adder (u : UnitNo) (c : CaptureUnit) : (s.setUnit u c).adder = s.adder := rfl
@[simp] theorem State.setUnit_engine (u : UnitNo) (c : CaptureUnit) : (s.setUnit u c).engine = s.engine := rfl
@[simp] theorem State.setUnit_cues (u : UnitNo) (c : CaptureUnit) : (s.setUnit u c).cues = s.cues := rfl
@[simp] theorem State.setUnit_message (u : UnitNo) (c : CaptureUnit) : (s.setUnit u c).message = s.message := rfl
@[simp] theorem State.setUnit_census (u : UnitNo) (c : CaptureUnit) : (s.setUnit u c).census = s.census := rfl
@[simp] theorem State.setUnit_groups (u : UnitNo) (c : CaptureUnit) : (s.setUnit u c).groups = s.groups := rfl
@[simp] theorem State.setUnit_outputs (u : UnitNo) (c : CaptureUnit) : (s.setUnit u c).outputs = s.outputs := rfl
@[simp] theorem State.setUnit_reports (u : UnitNo) (c : CaptureUnit) : (s.setUnit u c).reports = s.reports := rfl
@[simp] theorem State.setUnit_pending (u : UnitNo) (c : CaptureUnit) : (s.setUnit u c).pending = s.pending := rfl

/-! ### setCues -/

@[simp] theorem State.setCues_clock (n : StripNo) (l : List Cue) : (s.setCues n l).clock = s.clock := rfl
@[simp] theorem State.setCues_port (n : StripNo) (l : List Cue) : (s.setCues n l).port = s.port := rfl
@[simp] theorem State.setCues_adder (n : StripNo) (l : List Cue) : (s.setCues n l).adder = s.adder := rfl
@[simp] theorem State.setCues_engine (n : StripNo) (l : List Cue) : (s.setCues n l).engine = s.engine := rfl
@[simp] theorem State.setCues_message (n : StripNo) (l : List Cue) : (s.setCues n l).message = s.message := rfl
@[simp] theorem State.setCues_census (n : StripNo) (l : List Cue) : (s.setCues n l).census = s.census := rfl
@[simp] theorem State.setCues_groups (n : StripNo) (l : List Cue) : (s.setCues n l).groups = s.groups := rfl
@[simp] theorem State.setCues_units (n : StripNo) (l : List Cue) : (s.setCues n l).units = s.units := rfl
@[simp] theorem State.setCues_outputs (n : StripNo) (l : List Cue) : (s.setCues n l).outputs = s.outputs := rfl
@[simp] theorem State.setCues_reports (n : StripNo) (l : List Cue) : (s.setCues n l).reports = s.reports := rfl
@[simp] theorem State.setCues_pending (n : StripNo) (l : List Cue) : (s.setCues n l).pending = s.pending := rfl

/-! ### emptyCues -/

@[simp] theorem State.emptyCues_clock : (s.emptyCues).clock = s.clock := rfl
@[simp] theorem State.emptyCues_port : (s.emptyCues).port = s.port := rfl
@[simp] theorem State.emptyCues_adder : (s.emptyCues).adder = s.adder := rfl
@[simp] theorem State.emptyCues_engine : (s.emptyCues).engine = s.engine := rfl
@[simp] theorem State.emptyCues_message : (s.emptyCues).message = s.message := rfl
@[simp] theorem State.emptyCues_census : (s.emptyCues).census = s.census := rfl
@[simp] theorem State.emptyCues_groups : (s.emptyCues).groups = s.groups := rfl
@[simp] theorem State.emptyCues_units : (s.emptyCues).units = s.units := rfl
@[simp] theorem State.emptyCues_outputs : (s.emptyCues).outputs = s.outputs := rfl
@[simp] theorem State.emptyCues_reports : (s.emptyCues).reports = s.reports := rfl
@[simp] theorem State.emptyCues_pending : (s.emptyCues).pending = s.pending := rfl

/-! ### mapTable -/

@[simp] theorem State.mapTable_clock (i : Fin 3) (f : CensusTable → CensusTable) : (s.mapTable i f).clock = s.clock := rfl
@[simp] theorem State.mapTable_port (i : Fin 3) (f : CensusTable → CensusTable) : (s.mapTable i f).port = s.port := rfl
@[simp] theorem State.mapTable_adder (i : Fin 3) (f : CensusTable → CensusTable) : (s.mapTable i f).adder = s.adder := rfl
@[simp] theorem State.mapTable_engine (i : Fin 3) (f : CensusTable → CensusTable) : (s.mapTable i f).engine = s.engine := rfl
@[simp] theorem State.mapTable_cues (i : Fin 3) (f : CensusTable → CensusTable) : (s.mapTable i f).cues = s.cues := rfl
@[simp] theorem State.mapTable_message (i : Fin 3) (f : CensusTable → CensusTable) : (s.mapTable i f).message = s.message := rfl
@[simp] theorem State.mapTable_groups (i : Fin 3) (f : CensusTable → CensusTable) : (s.mapTable i f).groups = s.groups := rfl
@[simp] theorem State.mapTable_units (i : Fin 3) (f : CensusTable → CensusTable) : (s.mapTable i f).units = s.units := rfl
@[simp] theorem State.mapTable_outputs (i : Fin 3) (f : CensusTable → CensusTable) : (s.mapTable i f).outputs = s.outputs := rfl
@[simp] theorem State.mapTable_reports (i : Fin 3) (f : CensusTable → CensusTable) : (s.mapTable i f).reports = s.reports := rfl
@[simp] theorem State.mapTable_pending (i : Fin 3) (f : CensusTable → CensusTable) : (s.mapTable i f).pending = s.pending := rfl
@[simp] theorem State.mapTable_census_roles (i : Fin 3) (f : CensusTable → CensusTable) :
    (s.mapTable i f).census.roles = s.census.roles := rfl
@[simp] theorem State.mapTable_census_clearing (i : Fin 3) (f : CensusTable → CensusTable) :
    (s.mapTable i f).census.clearing = s.census.clearing := rfl
@[simp] theorem State.mapTable_census_held (i : Fin 3) (f : CensusTable → CensusTable) :
    (s.mapTable i f).census.held = s.census.held := rfl
@[simp] theorem State.mapTable_census_agingCount (i : Fin 3) (f : CensusTable → CensusTable) :
    (s.mapTable i f).census.agingCount = s.census.agingCount := rfl
@[simp] theorem State.mapTable_census_marks (i : Fin 3) (f : CensusTable → CensusTable) :
    (s.mapTable i f).census.marks = s.census.marks := rfl
@[simp] theorem State.mapTable_census_localSolo (i : Fin 3) (f : CensusTable → CensusTable) :
    (s.mapTable i f).census.localSolo = s.census.localSolo := rfl
@[simp] theorem State.mapTable_census_soloActive (i : Fin 3) (f : CensusTable → CensusTable) :
    (s.mapTable i f).census.soloActive = s.census.soloActive := rfl

/-! ### setPort -/

@[simp] theorem State.setPort_port (p : PortNo) (b : Bool) : (s.setPort p b).port = s.port := rfl
@[simp] theorem State.setPort_adder (p : PortNo) (b : Bool) : (s.setPort p b).adder = s.adder := rfl
@[simp] theorem State.setPort_engine (p : PortNo) (b : Bool) : (s.setPort p b).engine = s.engine := rfl
@[simp] theorem State.setPort_cues (p : PortNo) (b : Bool) : (s.setPort p b).cues = s.cues := rfl
@[simp] theorem State.setPort_message (p : PortNo) (b : Bool) : (s.setPort p b).message = s.message := rfl
@[simp] theorem State.setPort_census (p : PortNo) (b : Bool) : (s.setPort p b).census = s.census := rfl
@[simp] theorem State.setPort_groups (p : PortNo) (b : Bool) : (s.setPort p b).groups = s.groups := rfl
@[simp] theorem State.setPort_units (p : PortNo) (b : Bool) : (s.setPort p b).units = s.units := rfl
@[simp] theorem State.setPort_outputs (p : PortNo) (b : Bool) : (s.setPort p b).outputs = s.outputs := rfl
@[simp] theorem State.setPort_reports (p : PortNo) (b : Bool) : (s.setPort p b).reports = s.reports := rfl
@[simp] theorem State.setPort_pending (p : PortNo) (b : Bool) : (s.setPort p b).pending = s.pending := rfl
@[simp] theorem State.setPort_clock_start (p : PortNo) (b : Bool) :
    (s.setPort p b).clock.start = s.clock.start := rfl
@[simp] theorem State.setPort_clock_member (p : PortNo) (b : Bool) :
    (s.setPort p b).clock.member = s.clock.member := rfl
@[simp] theorem State.setPort_clock_profile (p : PortNo) (b : Bool) :
    (s.setPort p b).clock.profile = s.clock.profile := rfl
@[simp] theorem State.setPort_clock_lockCount (p : PortNo) (b : Bool) :
    (s.setPort p b).clock.lockCount = s.clock.lockCount := rfl
@[simp] theorem State.setPort_clock_goodArrivals (p : PortNo) (b : Bool) :
    (s.setPort p b).clock.goodArrivals = s.clock.goodArrivals := rfl
@[simp] theorem State.setPort_clock_rolling (p : PortNo) (b : Bool) :
    (s.setPort p b).clock.rolling = s.clock.rolling := rfl
@[simp] theorem State.setPort_clock_position (p : PortNo) (b : Bool) :
    (s.setPort p b).clock.position = s.clock.position := rfl
@[simp] theorem State.setPort_clock_referenced (p : PortNo) (b : Bool) :
    (s.setPort p b).clock.referenced = s.clock.referenced := rfl
@[simp] theorem State.setPort_clock_period (p : PortNo) (b : Bool) :
    (s.setPort p b).clock.period = s.clock.period := rfl
@[simp] theorem State.setPort_clock_taken (p : PortNo) (b : Bool) :
    (s.setPort p b).clock.taken = s.clock.taken := rfl

/-! ### begun -/

@[simp] theorem State.begun_port : s.begun.port = s.port := by unfold State.begun; split <;> rfl
@[simp] theorem State.begun_engine : s.begun.engine = s.engine := by unfold State.begun; split <;> rfl
@[simp] theorem State.begun_cues : s.begun.cues = s.cues := by unfold State.begun; split <;> rfl
@[simp] theorem State.begun_message : s.begun.message = s.message := by unfold State.begun; split <;> rfl
@[simp] theorem State.begun_census : s.begun.census = s.census := by unfold State.begun; split <;> rfl
@[simp] theorem State.begun_groups : s.begun.groups = s.groups := by unfold State.begun; split <;> rfl
@[simp] theorem State.begun_units : s.begun.units = s.units := by unfold State.begun; split <;> rfl
@[simp] theorem State.begun_outputs : s.begun.outputs = s.outputs := by unfold State.begun; split <;> rfl
@[simp] theorem State.begun_reports : s.begun.reports = s.reports := by unfold State.begun; split <;> rfl
@[simp] theorem State.begun_pending : s.begun.pending = s.pending := by unfold State.begun; split <;> rfl
@[simp] theorem State.begun_advanced : s.begun.clock.taken.advanced = true := by
  unfold State.begun
  split
  · assumption
  · rfl

/-- Of the clock, beginning a period's work marks the advance as taken and nothing else. -/
theorem State.begun_clock : s.begun.clock = { s.clock with taken := { s.clock.taken with advanced := true } } := by
  unfold State.begun
  split
  · rename_i h
    rw [← h]
  · rfl

@[simp] theorem State.begun_clock_start : s.begun.clock.start = s.clock.start := by rw [State.begun_clock]
@[simp] theorem State.begun_clock_member : s.begun.clock.member = s.clock.member := by rw [State.begun_clock]
@[simp] theorem State.begun_clock_period : s.begun.clock.period = s.clock.period := by rw [State.begun_clock]
@[simp] theorem State.begun_clock_ports : s.begun.clock.ports = s.clock.ports := by rw [State.begun_clock]
@[simp] theorem State.begun_clock_sampled : s.begun.clock.taken.sampled = s.clock.taken.sampled := by rw [State.begun_clock]

/-! ### Reading back -/

/-- Reading strip `m` after strip `n` was replaced. -/
theorem State.strip_setStrip (n m : StripNo) (st : Strip) :
    (s.setStrip n st).strip m = if n = m then st else s.strip m := by
  simp only [State.strip, State.setStrip, Fin.getElem_fin, Vector.getElem_set, Fin.val_inj]

@[simp] theorem State.strip_setStrip_same (n : StripNo) (st : Strip) : (s.setStrip n st).strip n = st := by
  simp [State.strip_setStrip]

/-- A strip other than the one replaced is as it was. -/
theorem State.strip_setStrip_ne {n m : StripNo} (h : n ≠ m) (st : Strip) :
    (s.setStrip n st).strip m = s.strip m := by
  simp [State.strip_setStrip, h]

@[simp] theorem State.strip_mapStrips (f : StripNo → Strip → Strip) (n : StripNo) :
    (s.mapStrips f).strip n = f n (s.strip n) := by
  simp [State.strip, State.mapStrips]

/-- Reading group `h` after the entry of group `g` was replaced. -/
theorem State.group_setGroup (g h : GroupNo) (e : GroupEntry) :
    (s.setGroup g e).group h = if g = h then e else s.group h := by
  simp only [State.group, State.setGroup, Fin.getElem_fin, Vector.getElem_set, Fin.val_inj]

@[simp] theorem State.group_setGroup_same (g : GroupNo) (e : GroupEntry) : (s.setGroup g e).group g = e := by
  simp [State.group_setGroup]

/-- Reading unit `v` after unit `u` was replaced. -/
theorem State.captureUnit_setUnit (u v : UnitNo) (c : CaptureUnit) :
    (s.setUnit u c).captureUnit v = if u = v then c else s.captureUnit v := by
  simp only [State.captureUnit, State.setUnit, Fin.getElem_fin, Vector.getElem_set, Fin.val_inj]

@[simp] theorem State.captureUnit_setUnit_same (u : UnitNo) (c : CaptureUnit) :
    (s.setUnit u c).captureUnit u = c := by
  simp [State.captureUnit_setUnit]

/-- Reading the list of strip `m` after the list of strip `n` was replaced. -/
theorem State.cueList_setCues (n m : StripNo) (l : List Cue) :
    (s.setCues n l).cueList m = if n = m then l else s.cueList m := by
  simp only [State.cueList, State.setCues, Fin.getElem_fin, Vector.getElem_set, Fin.val_inj]

@[simp] theorem State.cueList_emptyCues (n : StripNo) : s.emptyCues.cueList n = [] := by
  simp [State.cueList, State.emptyCues, noCues]

/-- Reading table `j` after table `i` was changed. -/
theorem State.table_mapTable (i j : Fin 3) (f : CensusTable → CensusTable) :
    (s.mapTable i f).table j = if i = j then f (s.table j) else s.table j := by
  by_cases h : i = j
  · subst h; simp [State.table, State.mapTable]
  · have hv : i.val ≠ j.val := fun e => h (Fin.ext e)
    simp [State.table, State.mapTable, h, hv]

/-- Reading a source's vector after an event was latched for a source. -/
theorem State.vector_latch (src src' : SourceNo) (e : NoticeEvent) :
    (s.latch src e).reports.vectors[src'] =
      if src = src' then s.reports.vectors[src'].latch e else s.reports.vectors[src'] := by
  by_cases h : src = src'
  · subst h; simp [State.latch]
  · have hv : src.val ≠ src'.val := fun e => h (Fin.ext e)
    simp [State.latch, h, hv]

/-! ### Readings that only look at untouched blocks -/

@[simp] theorem State.strip_latch (n : StripNo) (src : SourceNo) (e : NoticeEvent) :
    (s.latch src e).strip n = s.strip n := rfl
@[simp] theorem State.strip_latchNode (n : StripNo) (e : NoticeEvent) :
    (s.latchNode e).strip n = s.strip n := rfl
@[simp] theorem State.strip_latchStrips (n : StripNo) (f : StripNo → List NoticeEvent) :
    (s.latchStrips f).strip n = s.strip n := by simp only [State.latchStrips, State.strip]
@[simp] theorem State.strip_latchAnchors (n : StripNo) (f : Nat → List NoticeEvent) :
    (s.latchAnchors f).strip n = s.strip n := by simp only [State.latchAnchors, State.strip]
@[simp] theorem State.strip_count (n : StripNo) (f : Counters → Counters) :
    (s.count f).strip n = s.strip n := rfl
@[simp] theorem State.strip_setGroup (n : StripNo) (g' : GroupNo) (e : GroupEntry) :
    (s.setGroup g' e).strip n = s.strip n := rfl
@[simp] theorem State.strip_setUnit (n : StripNo) (u' : UnitNo) (c : CaptureUnit) :
    (s.setUnit u' c).strip n = s.strip n := rfl
@[simp] theorem State.strip_setCues (n : StripNo) (n' : StripNo) (l : List Cue) :
    (s.setCues n' l).strip n = s.strip n := rfl
@[simp] theorem State.strip_emptyCues (n : StripNo) :
    (s.emptyCues).strip n = s.strip n := rfl
@[simp] theorem State.strip_mapTable (n : StripNo) (i' : Fin 3) (f : CensusTable → CensusTable) :
    (s.mapTable i' f).strip n = s.strip n := rfl
@[simp] theorem State.strip_setPort (n : StripNo) (p : PortNo) (b : Bool) :
    (s.setPort p b).strip n = s.strip n := rfl
@[simp] theorem State.group_setStrip (g : GroupNo) (n' : StripNo) (st : Strip) :
    (s.setStrip n' st).group g = s.group g := rfl
@[simp] theorem State.group_mapStrips (g : GroupNo) (f : StripNo → Strip → Strip) :
    (s.mapStrips f).group g = s.group g := by simp only [State.mapStrips, State.group]
@[simp] theorem State.group_latch (g : GroupNo) (src : SourceNo) (e : NoticeEvent) :
    (s.latch src e).group g = s.group g := rfl
@[simp] theorem State.group_latchNode (g : GroupNo) (e : NoticeEvent) :
    (s.latchNode e).group g = s.group g := rfl
@[simp] theorem State.group_latchStrips (g : GroupNo) (f : StripNo → List NoticeEvent) :
    (s.latchStrips f).group g = s.group g := by simp only [State.latchStrips, State.group]
@[simp] theorem State.group_latchAnchors (g : GroupNo) (f : Nat → List NoticeEvent) :
    (s.latchAnchors f).group g = s.group g := by simp only [State.latchAnchors, State.group]
@[simp] theorem State.group_count (g : GroupNo) (f : Counters → Counters) :
    (s.count f).group g = s.group g := rfl
@[simp] theorem State.group_setUnit (g : GroupNo) (u' : UnitNo) (c : CaptureUnit) :
    (s.setUnit u' c).group g = s.group g := rfl
@[simp] theorem State.group_setCues (g : GroupNo) (n' : StripNo) (l : List Cue) :
    (s.setCues n' l).group g = s.group g := rfl
@[simp] theorem State.group_emptyCues (g : GroupNo) :
    (s.emptyCues).group g = s.group g := rfl
@[simp] theorem State.group_mapTable (g : GroupNo) (i' : Fin 3) (f : CensusTable → CensusTable) :
    (s.mapTable i' f).group g = s.group g := rfl
@[simp] theorem State.group_setPort (g : GroupNo) (p : PortNo) (b : Bool) :
    (s.setPort p b).group g = s.group g := rfl
@[simp] theorem State.captureUnit_setStrip (u : UnitNo) (n' : StripNo) (st : Strip) :
    (s.setStrip n' st).captureUnit u = s.captureUnit u := rfl
@[simp] theorem State.captureUnit_mapStrips (u : UnitNo) (f : StripNo → Strip → Strip) :
    (s.mapStrips f).captureUnit u = s.captureUnit u := by simp only [State.mapStrips, State.captureUnit]
@[simp] theorem State.captureUnit_latch (u : UnitNo) (src : SourceNo) (e : NoticeEvent) :
    (s.latch src e).captureUnit u = s.captureUnit u := rfl
@[simp] theorem State.captureUnit_latchNode (u : UnitNo) (e : NoticeEvent) :
    (s.latchNode e).captureUnit u = s.captureUnit u := rfl
@[simp] theorem State.captureUnit_latchStrips (u : UnitNo) (f : StripNo → List NoticeEvent) :
    (s.latchStrips f).captureUnit u = s.captureUnit u := by simp only [State.latchStrips, State.captureUnit]
@[simp] theorem State.captureUnit_latchAnchors (u : UnitNo) (f : Nat → List NoticeEvent) :
    (s.latchAnchors f).captureUnit u = s.captureUnit u := by simp only [State.latchAnchors, State.captureUnit]
@[simp] theorem State.captureUnit_count (u : UnitNo) (f : Counters → Counters) :
    (s.count f).captureUnit u = s.captureUnit u := rfl
@[simp] theorem State.captureUnit_setGroup (u : UnitNo) (g' : GroupNo) (e : GroupEntry) :
    (s.setGroup g' e).captureUnit u = s.captureUnit u := rfl
@[simp] theorem State.captureUnit_setCues (u : UnitNo) (n' : StripNo) (l : List Cue) :
    (s.setCues n' l).captureUnit u = s.captureUnit u := rfl
@[simp] theorem State.captureUnit_emptyCues (u : UnitNo) :
    (s.emptyCues).captureUnit u = s.captureUnit u := rfl
@[simp] theorem State.captureUnit_mapTable (u : UnitNo) (i' : Fin 3) (f : CensusTable → CensusTable) :
    (s.mapTable i' f).captureUnit u = s.captureUnit u := rfl
@[simp] theorem State.captureUnit_setPort (u : UnitNo) (p : PortNo) (b : Bool) :
    (s.setPort p b).captureUnit u = s.captureUnit u := rfl
@[simp] theorem State.cueList_setStrip (n : StripNo) (n' : StripNo) (st : Strip) :
    (s.setStrip n' st).cueList n = s.cueList n := rfl
@[simp] theorem State.cueList_mapStrips (n : StripNo) (f : StripNo → Strip → Strip) :
    (s.mapStrips f).cueList n = s.cueList n := by simp only [State.mapStrips, State.cueList]
@[simp] theorem State.cueList_latch (n : StripNo) (src : SourceNo) (e : NoticeEvent) :
    (s.latch src e).cueList n = s.cueList n := rfl
@[simp] theorem State.cueList_latchNode (n : StripNo) (e : NoticeEvent) :
    (s.latchNode e).cueList n = s.cueList n := rfl
@[simp] theorem State.cueList_latchStrips (n : StripNo) (f : StripNo → List NoticeEvent) :
    (s.latchStrips f).cueList n = s.cueList n := by simp only [State.latchStrips, State.cueList]
@[simp] theorem State.cueList_latchAnchors (n : StripNo) (f : Nat → List NoticeEvent) :
    (s.latchAnchors f).cueList n = s.cueList n := by simp only [State.latchAnchors, State.cueList]
@[simp] theorem State.cueList_count (n : StripNo) (f : Counters → Counters) :
    (s.count f).cueList n = s.cueList n := rfl
@[simp] theorem State.cueList_setGroup (n : StripNo) (g' : GroupNo) (e : GroupEntry) :
    (s.setGroup g' e).cueList n = s.cueList n := rfl
@[simp] theorem State.cueList_setUnit (n : StripNo) (u' : UnitNo) (c : CaptureUnit) :
    (s.setUnit u' c).cueList n = s.cueList n := rfl
@[simp] theorem State.cueList_mapTable (n : StripNo) (i' : Fin 3) (f : CensusTable → CensusTable) :
    (s.mapTable i' f).cueList n = s.cueList n := rfl
@[simp] theorem State.cueList_setPort (n : StripNo) (p : PortNo) (b : Bool) :
    (s.setPort p b).cueList n = s.cueList n := rfl
@[simp] theorem State.table_setStrip (i : Fin 3) (n' : StripNo) (st : Strip) :
    (s.setStrip n' st).table i = s.table i := rfl
@[simp] theorem State.table_mapStrips (i : Fin 3) (f : StripNo → Strip → Strip) :
    (s.mapStrips f).table i = s.table i := by simp only [State.mapStrips, State.table]
@[simp] theorem State.table_latch (i : Fin 3) (src : SourceNo) (e : NoticeEvent) :
    (s.latch src e).table i = s.table i := rfl
@[simp] theorem State.table_latchNode (i : Fin 3) (e : NoticeEvent) :
    (s.latchNode e).table i = s.table i := rfl
@[simp] theorem State.table_latchStrips (i : Fin 3) (f : StripNo → List NoticeEvent) :
    (s.latchStrips f).table i = s.table i := by simp only [State.latchStrips, State.table]
@[simp] theorem State.table_latchAnchors (i : Fin 3) (f : Nat → List NoticeEvent) :
    (s.latchAnchors f).table i = s.table i := by simp only [State.latchAnchors, State.table]
@[simp] theorem State.table_count (i : Fin 3) (f : Counters → Counters) :
    (s.count f).table i = s.table i := rfl
@[simp] theorem State.table_setGroup (i : Fin 3) (g' : GroupNo) (e : GroupEntry) :
    (s.setGroup g' e).table i = s.table i := rfl
@[simp] theorem State.table_setUnit (i : Fin 3) (u' : UnitNo) (c : CaptureUnit) :
    (s.setUnit u' c).table i = s.table i := rfl
@[simp] theorem State.table_setCues (i : Fin 3) (n' : StripNo) (l : List Cue) :
    (s.setCues n' l).table i = s.table i := rfl
@[simp] theorem State.table_emptyCues (i : Fin 3) :
    (s.emptyCues).table i = s.table i := rfl
@[simp] theorem State.table_setPort (i : Fin 3) (p : PortNo) (b : Bool) :
    (s.setPort p b).table i = s.table i := rfl

end Sys2Proof.Machine
end

