-- ==== Sys2Proof/Laws/Ops.lean ====
section
/-! SUPPORT. What each shared operation can do, said once: what it may change, and what it leaves. A proof about a command
cites these and does not unfold the operation. -/

namespace Sys2Proof.Machine

open Sys2Proof

/-! ### Acting on a message (R85) -/

theorem State.whenActing_of_acts {s : State} {source : Member} (h : s.Acts source) (act : State → State) :
    s.whenActing source act = act s := by
  simp [State.whenActing, State.joined, h.1, h.2]

theorem State.whenActing_of_not_acts {s : State} {source : Member} (h : ¬s.Acts source) (act : State → State) :
    s.whenActing source act = s := by
  unfold State.whenActing
  split
  · rename_i hb
    simp only [State.joined, Bool.and_eq_true, beq_iff_eq, bne_iff_ne] at hb
    exact absurd hb h
  · rfl

/-! ### Field names -/

theorem stripOf_eq_some {b : Byte} {n : StripNo} (h : b.toNat = n.val) : stripOf b = some n := by
  have := n.isLt
  unfold stripOf
  rw [dif_pos (by omega)]
  simp [h]

theorem stripOf_eq_none {b : Byte} (h : 32 ≤ b.toNat) : stripOf b = none := by
  unfold stripOf
  rw [dif_neg (by omega)]

theorem laneOf_eq_some {b : Byte} {n : LaneNo} (h : b.toNat = n.val) : laneOf b = some n := by
  have := n.isLt
  unfold laneOf
  rw [dif_pos (by omega)]
  simp [h]

theorem laneOf_eq_none {b : Byte} (h : 64 ≤ b.toNat) : laneOf b = none := by
  unfold laneOf
  rw [dif_neg (by omega)]

theorem unitOf_eq_some {b : Byte} {u : UnitNo} (h : b.toNat = u.val) : unitOf b = some u := by
  have := u.isLt
  unfold unitOf
  rw [dif_pos (by omega)]
  simp [h]

theorem unitOf_eq_none {b : Byte} (h : 4 ≤ b.toNat) : unitOf b = none := by
  unfold unitOf
  rw [dif_neg (by omega)]

theorem memberOf_eq_some {b : Byte} {m : Member} (h : b.toNat = m.val) : memberOf b = some m := by
  have := m.isLt
  unfold memberOf
  rw [dif_pos (by omega)]
  simp [h]

theorem memberOf_eq_none {b : Byte} (h : 16 ≤ b.toNat) : memberOf b = none := by
  unfold memberOf
  rw [dif_neg (by omega)]

@[simp] theorem memberOf_memberByte (m : Member) : memberOf (memberByte m) = some m := by
  have := m.isLt
  exact memberOf_eq_some (by simp only [memberByte, BitVec.toNat_ofNat]; omega)

@[simp] theorem stripOf_stripByte (n : StripNo) : stripOf (stripByte n) = some n := by
  have := n.isLt
  exact stripOf_eq_some (by simp only [stripByte, BitVec.toNat_ofNat]; omega)

theorem groupOf_eq_some {b : Byte} {g : GroupNo} (h : b.toNat = g.val + 1) : groupOf b = some g := by
  have := g.isLt
  unfold groupOf
  rw [dif_pos (by omega)]
  simp [h]

theorem groupOf_eq_none {b : Byte} (h : b = 0#8 ∨ 33 ≤ b.toNat) : groupOf b = none := by
  unfold groupOf
  rw [dif_neg]
  rcases h with rfl | h
  · simp
  · omega

/-- A strip field that names a strip is not the field that names all of them. -/
theorem ne_allStrips {b : Byte} {n : StripNo} (h : b.toNat = n.val) : b ≠ 255#8 := by
  rintro rfl
  have := n.isLt
  simp at h
  omega

/-! ### Ramps (R45, R48) -/

@[simp] theorem Ramp.retarget_applied (r : Ramp) (target length : Nat) : (r.retarget target length).applied = r.applied := by
  unfold Ramp.retarget
  split <;> rfl

@[simp] theorem Ramp.retarget_target (r : Ramp) (target length : Nat) : (r.retarget target length).target = target := by
  unfold Ramp.retarget
  split
  · rename_i h
    exact h.symm
  · rfl

theorem Ramp.retarget_eq_self (r : Ramp) (length : Nat) : r.retarget r.target length = r := by simp [Ramp.retarget]

theorem Strip.retarget_eq (soloActive : Bool) (active : BitVec 16) (length : Nat) (st : Strip) :
    st.retarget soloActive active length = { st with ramp := st.ramp.retarget (st.target soloActive active) length } := rfl

/-- A strip whose target is already what its fields give is not moved by a recomputation. -/
theorem State.retargeted_eq_self {s : State} {st : Strip} (length : Nat)
    (h : st.ramp.target = st.target s.census.soloActive s.engine.activeMutes) : s.retargeted length st = st := by
  rw [State.retargeted, Strip.retarget_eq, ← h, Ramp.retarget_eq_self]

/-! ### Writing a record twice -/

@[simp] theorem State.setStrip_setStrip (n : StripNo) (x y : Strip) (s : State) :
    (s.setStrip n x).setStrip n y = s.setStrip n y := by simp [State.setStrip]

@[simp] theorem State.setUnit_setUnit (u : UnitNo) (x y : CaptureUnit) (s : State) :
    (s.setUnit u x).setUnit u y = s.setUnit u y := by simp [State.setUnit]

@[simp] theorem State.setGroup_setGroup (g : GroupNo) (x y : GroupEntry) (s : State) :
    (s.setGroup g x).setGroup g y = s.setGroup g y := by simp [State.setGroup]

@[simp] theorem State.setStrip_self (n : StripNo) (s : State) : s.setStrip n (s.strip n) = s := by
  simp [State.setStrip, State.strip]

@[simp] theorem State.setUnit_self (u : UnitNo) (s : State) : s.setUnit u (s.captureUnit u) = s := by
  simp [State.setUnit, State.captureUnit]

@[simp] theorem State.setGroup_self (g : GroupNo) (s : State) : s.setGroup g (s.group g) = s := by
  simp [State.setGroup, State.group]

/-! ### The outbound queue (R92 to R97) -/

/-- A message offered changes the queue, or is dropped, counted and latched in the node's vector; nothing else. -/
theorem State.offer_eq (m : OutMsg) (s : State) :
    s.offer m = { s with
      message.outbound := (s.offer m).message.outbound
      message.counters.outboundDrop := (s.offer m).message.counters.outboundDrop
      reports.vectors := (s.offer m).reports.vectors } := by
  unfold State.offer
  split
  · rfl
  · split <;> rfl

theorem State.offer_vector (m : OutMsg) (s : State) {src : SourceNo} (h : src ≠ nodeSource) :
    (s.offer m).reports.vectors[src] = s.reports.vectors[src] := by
  unfold State.offer
  split
  · rfl
  · split
    · rfl
    · rw [State.latchNode, State.vector_latch, if_neg fun e => h e.symm]
      rfl

/-- What an offer does to the Message Unit depends on the Message Unit alone. -/
theorem State.offer_message_congr {s t : State} (m : OutMsg) (h : s.message = t.message) :
    (s.offer m).message = (t.offer m).message := by
  unfold State.offer
  rw [h]
  split
  · simp
  · split <;> simp [State.count, h]

theorem State.offer_of_coalesce {m : OutMsg} {s : State} {q : List OutMsg} (h : coalesce m s.message.outbound = some q) :
    s.offer m = { s with message.outbound := q } := by simp [State.offer, h]

theorem State.offer_of_room {m : OutMsg} {s : State} (h : coalesce m s.message.outbound = none)
    (hroom : s.message.outbound.length < 32) : s.offer m = { s with message.outbound := s.message.outbound ++ [m] } := by
  simp [State.offer, h, queueLimit, hroom]

theorem State.offer_of_full {m : OutMsg} {s : State} (h : coalesce m s.message.outbound = none)
    (hfull : 32 ≤ s.message.outbound.length) : s.offer m = (s.count Counters.addDrop).latchNode .outboundDrop := by
  simp [State.offer, h, queueLimit, Nat.not_lt.mpr hfull]

/-- The first element that `p` holds of is the one changed. -/
theorem modifyFirst_append {α : Type} (p : α → Bool) (f : α → α) (front back : List α) (x : α)
    (hfront : ∀ y ∈ front, p y = false) (hx : p x = true) :
    modifyFirst p f (front ++ x :: back) = front ++ f x :: back := by
  induction front with
  | nil => simp [modifyFirst, hx]
  | cons a as ih =>
    have ha : p a = false := hfront a (by simp)
    simp [modifyFirst, ha, ih fun y hy => hfront y (by simp [hy])]

theorem modifyFirst_length {α : Type} (p : α → Bool) (f : α → α) (l : List α) :
    (modifyFirst p f l).length = l.length := by
  induction l with
  | nil => rfl
  | cons a as ih =>
    unfold modifyFirst
    split <;> simp [ih]

/-- A message of a kind that is never coalesced. -/
theorem coalesce_eq_none {m : OutMsg} (q : List OutMsg) (h : m.body.kind.toNat ≥ 0x60) : coalesce m q = none := by
  unfold coalesce
  cases hb : m.body <;> simp_all [Body.kind]

/-! ### The Group Table (R135 to R141) -/

theorem State.takeLead_eq (g : GroupNo) (n : StripNo) (s : State) :
    s.takeLead g n = (s.setGroup g { s.group g with lead := some (s.ownKey n), silent := 0 }).announce (.claim g n) := rfl

/-- A hand-on changes the one entry, the queue, the drop counter and the node's vector; nothing else. -/
theorem State.handOn_eq (g : GroupNo) (s : State) :
    s.handOn g = { s with
      groups := s.groups.set g ((s.handOn g).group g)
      message.outbound := (s.handOn g).message.outbound
      message.counters.outboundDrop := (s.handOn g).message.counters.outboundDrop
      reports.vectors := (s.handOn g).reports.vectors } := by
  unfold State.handOn
  split
  · unfold State.takeLead State.announce
    rw [State.offer_eq]
    simp [State.setGroup, State.group]
  · simp [State.group]

/-- A hand-on with no waiter changes nothing. -/
theorem State.handOn_of_none {g : GroupNo} {s : State} (h : ∀ n : StripNo, s.isWaiter g n = false) : s.handOn g = s := by
  unfold State.handOn State.firstWaiter
  have : allStrips.find? (s.isWaiter g) = none := by simp [List.find?_eq_none, h]
  rw [this]

/-- The first strip in strip order for which `p` holds. -/
theorem find_allStrips {p : StripNo → Bool} {n : StripNo} (h : p n = true) (hlow : ∀ k : StripNo, k < n → p k = false) :
    allStrips.find? p = some n := by
  rw [List.find?_eq_some_iff_getElem]
  refine ⟨h, n.val, by simp [allStrips], by simp [allStrips], ?_⟩
  intro j hj
  have : p ⟨j, by omega⟩ = false := hlow _ (by simpa [Fin.lt_def] using hj)
  simpa [allStrips] using this

/-- A hand-on goes to the lowest waiter. -/
theorem State.handOn_of_waiter {g : GroupNo} {n : StripNo} {s : State} (h : s.isWaiter g n = true)
    (hlow : ∀ k : StripNo, k < n → s.isWaiter g k = false) : s.handOn g = s.takeLead g n := by
  unfold State.handOn State.firstWaiter
  rw [find_allStrips h hlow]

/-- A strip that holds no lead releases none. -/
theorem State.releaseIfLead_of_not {group : Option GroupNo} {n : StripNo} {s : State}
    (h : ∀ g : GroupNo, s.leads g n = false) : s.releaseIfLead group n = s := by
  unfold State.releaseIfLead
  split
  · rw [h]
    rfl
  · rfl

/-! ### Capture units (R148, R159) -/

/-- Releasing a binding changes the unit and the strip that it names; nothing else. -/
theorem State.releaseBinding_eq (u : UnitNo) (s : State) :
    s.releaseBinding u = { s with
      units := s.units.set u { s.captureUnit u with bound := none }
      engine.strips := (s.releaseBinding u).engine.strips } := by
  unfold State.releaseBinding
  simp only
  split <;> rfl

theorem State.strip_releaseBinding (u : UnitNo) (s : State) (k : StripNo) :
    (s.releaseBinding u).strip k =
      if (s.captureUnit u).bound = some k then { s.strip k with binding := none } else s.strip k := by
  unfold State.releaseBinding
  simp only
  split
  · rename_i n h
    rw [h, State.strip_setStrip]
    by_cases hk : n = k
    · subst hk
      simp
    · simp only [hk, if_false, Option.some.injEq]
      rfl
  · rename_i h
    rw [h]
    simp only [reduceCtorEq, if_false]
    rfl

theorem State.captureUnit_releaseBinding (u v : UnitNo) (s : State) :
    (s.releaseBinding u).captureUnit v =
      if u = v then { s.captureUnit u with bound := none } else s.captureUnit v := by
  rw [State.releaseBinding_eq, ← State.captureUnit_setUnit]
  rfl

/-- The end of DRAINING: what R159's judgement leaves of the unit. -/
theorem State.endDrain_unit (u : UnitNo) (s : State) :
    (s.endDrain u).captureUnit u = { s.captureUnit u with
      endRecord := some (s.captureUnit u).ending
      state := if (s.captureUnit u).conditions &&& (s.captureUnit u).settings.noticeMask = 0#8 then .idle
        else if s.reports.inhibited then .ended
        else if s.message.outbound.length ≤ 30 then .idle
        else .draining } := by
  unfold State.endDrain
  simp only
  have hfree : 2 ≤ s.freeEntries ↔ s.message.outbound.length ≤ 30 := by
    unfold State.freeEntries queueLimit
    omega
  split
  · rw [State.captureUnit_setUnit]
    simp
  · split
    · rw [State.captureUnit_setUnit]
      simp
    · by_cases h : s.message.outbound.length ≤ 30
      · rw [if_pos (hfree.mpr h), State.offer_eq]
        show (State.setUnit _ _ s).captureUnit u = _
        rw [State.captureUnit_setUnit]
        simp [h]
      · rw [if_neg fun e => h (hfree.mp e), State.captureUnit_setUnit]
        simp [h]

/-- The end of DRAINING touches the unit, the Message Unit and nothing else, since its CAPTURE END finds room. -/
theorem State.endDrain_eq (u : UnitNo) (s : State) :
    s.endDrain u = { s with
      units := s.units.set u ((s.endDrain u).captureUnit u)
      message := if (s.captureUnit u).conditions &&& (s.captureUnit u).settings.noticeMask ≠ 0#8 ∧
          s.reports.inhibited = false ∧ s.message.outbound.length ≤ 30
        then (s.offer ((s.captureUnit u).endMessage u (s.captureUnit u).ending)).message
        else s.message } := by
  have hfree : 2 ≤ s.freeEntries ↔ s.message.outbound.length ≤ 30 := by
    unfold State.freeEntries queueLimit
    omega
  have hc : ∀ (c : CaptureUnit) (e : EndRecord) (q : List OutMsg), coalesce (c.endMessage u e) q = none :=
    fun c e q => coalesce_eq_none q (by simp [CaptureUnit.endMessage, Body.kind])
  rw [State.endDrain_unit]
  unfold State.endDrain
  simp only
  by_cases h : (s.captureUnit u).conditions &&& (s.captureUnit u).settings.noticeMask = 0#8
  · simp [h, State.setUnit]
  · by_cases h' : s.reports.inhibited = true
    · simp [h, h', State.setUnit]
    · by_cases hroom : s.message.outbound.length ≤ 30
      · rw [if_neg h, if_neg h', if_pos (hfree.mpr hroom), State.offer_of_room (hc _ _ _) (by simp [State.setUnit]; omega),
          State.offer_of_room (hc _ _ _) (by omega)]
        simp [h, h', hroom, State.setUnit, CaptureUnit.endMessage, CaptureUnit.ending]
      · rw [if_neg h, if_neg h', if_neg fun e => hroom (hfree.mp e)]
        simp [h, h', hroom, State.setUnit]

/-! ### Anchors -/

/-- What the anchors' steps leave in a vector: an anchor's own vector takes its events, and no other vector changes. -/
theorem State.vector_stepAnchors (steps : List AnchorStep) (s : State) (src : SourceNo) :
    (s.stepAnchors steps).reports.vectors[src] =
      if 32 ≤ src.val ∧ src.val < 64 then s.reports.vectors[src].latchAll (match steps[src.val - 32]? with
        | some st => st.events
        | none => [])
      else s.reports.vectors[src] := by
  exact Vector.getElem_ofFn ..

theorem State.vector_stepAnchors_anchor {steps : List AnchorStep} {st : AnchorStep} (s : State) {m : AnchorNo}
    (h : steps[m.val]? = some st) : (s.stepAnchors steps).reports.vectors[anchorSource m] =
      s.reports.vectors[anchorSource m].latchAll st.events := by
  rw [State.vector_stepAnchors, if_pos (by simp [anchorSource]; omega)]
  simp [anchorSource, h]

/-- An event latched is in the vector's set afterwards. -/
theorem EventVector.latchAll_mem (v : EventVector) (es : List NoticeEvent) (e : NoticeEvent) (h : e ∈ es) :
    (v.latchAll es).events.getLsbD e.bit = true := by
  have key : ∀ (es : List NoticeEvent) (v : EventVector), v.events.getLsbD e.bit = true →
      (v.latchAll es).events.getLsbD e.bit = true := by
    intro es
    induction es with
    | nil => exact fun v h => h
    | cons a as ih => exact fun v h => ih _ (by simp [EventVector.latch, h])
  induction es generalizing v with
  | nil => cases h
  | cons a as ih =>
    rcases List.mem_cons.mp h with rfl | h
    · show ((v.latch e).latchAll as).events.getLsbD _ = true
      apply key as
      cases e <;> simp [EventVector.latch, NoticeEvent.set, NoticeEvent.bit]
    · exact ih _ h

/-! ### The start of a period (R14, R61) -/

/-- The advance is taken once in a period. -/
theorem State.begun_of_advanced {s : State} (h : s.clock.taken.advanced = true) : s.begun = s := by
  unfold State.begun
  rw [if_pos h]

/-- What beginning a period's work can do: the history moves on where it is still to move in this period. -/
theorem State.begun_eq (s : State) : s.begun = { s with
    adder := if s.clock.taken.advanced then s.adder else s.adder.advance, clock.taken.advanced := true } := by
  unfold State.begun
  split
  · rename_i h
    rw [← h]
  · rfl

@[simp] theorem State.begun_begun (s : State) : s.begun.begun = s.begun := State.begun_of_advanced s.begun_advanced

/-- HISTORY_ADVANCE in a period that passes. -/
theorem execHistoryAdvance_of_passes {s : State} (h : s.periodsPass = true) : execHistoryAdvance s = .next s.begun := by
  rw [execHistoryAdvance, if_pos h]

/-! ### Insertion and emission (R90) -/

/-- The insertion changes the waiting slot, the queue and the in-flight list; the lanes of the waiting arrival stand. -/
theorem State.insert_cases (s : State) : ∃ due queue flight,
    s.insert = { s with port.due := due, message.outbound := queue, message.inFlight := flight } ∧
    due.isNone = s.port.due.isNone ∧ ∀ e ∈ s.port.due, ∃ e', due = some e' ∧ e'.lanes = e.lanes := by
  unfold State.insert
  split
  · rename_i e m h
    refine ⟨_, _, _, rfl, ?_⟩
    unfold State.insertable at h
    split at h
    · rename_i hdue _
      split at h
      · simp only [Option.some.injEq, Prod.mk.injEq] at h
        obtain ⟨rfl, rfl⟩ := h
        simp [hdue]
      · cases h
    · cases h
  · exact ⟨s.port.due, s.message.outbound, s.message.inFlight, rfl, rfl, fun e he => ⟨e, he, rfl⟩⟩

@[simp] theorem State.insert_clock (s : State) : s.insert.clock = s.clock := by
  obtain ⟨d, q, f, h, -⟩ := s.insert_cases
  rw [h]

@[simp] theorem State.insert_outputs (s : State) : s.insert.outputs = s.outputs := by
  obtain ⟨d, q, f, h, -⟩ := s.insert_cases
  rw [h]

@[simp] theorem State.insert_reports (s : State) : s.insert.reports = s.reports := by
  obtain ⟨d, q, f, h, -⟩ := s.insert_cases
  rw [h]

theorem State.handOffOf_insert (s : State) (lane : LaneNo) : s.insert.handOffOf lane = s.handOffOf lane := by
  obtain ⟨d, q, f, h, h2, h3⟩ := s.insert_cases
  rw [h]
  unfold State.handOffOf
  cases hd : s.port.due with
  | none => simp [hd] at h2; simp [h2]
  | some e => obtain ⟨e', rfl, h4⟩ := h3 e hd; simp [h4]

/-- What one JOINED emission leaves: the insertion's state, the frame on the transmit link, the anchors with their records and
what those latch. -/
theorem State.emit_joined {s : State} (hj : s.clock.start = .joined) : s.emit = { s.insert with
    port.transmit := some s.insert.emission
    outputs.anchors := s.outputs.anchors.map fun a => (a.handOff (s.handOffOf a.lane)).anchor
    reports.vectors := s.emit.reports.vectors } := by
  have hjoined : s.insert.joined = true := by simp [State.joined, hj]
  unfold State.emit State.handOffs
  rw [if_pos hjoined]
  simp [State.stepAnchors, State.latchAnchors, State.handOffOf_insert]

/-- What one PASSING emission leaves: the frame on the transmit link. -/
theorem State.emit_passing {s : State} (hp : s.clock.start = .passing) :
    s.emit = { s with port.transmit := some s.emission } := by
  have hi : s.insert = s := by
    unfold State.insert State.insertable
    cases s.port.due <;> cases s.message.outbound <;> simp [State.joined, hp]
  unfold State.emit State.handOffs
  rw [hi, if_neg (by simp [State.joined, hp])]

/-- What one JOINED emission leaves of an anchor and of its vector. -/
theorem State.emit_anchor {s : State} (hj : s.clock.start = .joined) {m : AnchorNo} {a : Anchor}
    (h : s.outputs.anchors[m.val]? = some a) :
    s.emit.outputs.anchors[m.val]? = some (a.handOff (s.handOffOf a.lane)).anchor ∧
    s.emit.reports.vectors[anchorSource m] =
      s.reports.vectors[anchorSource m].latchAll (a.handOff (s.handOffOf a.lane)).events := by
  have hjoined : s.insert.joined = true := by simp [State.joined, hj]
  have hsteps : s.insert.handOffs =
      s.insert.stepAnchors (s.outputs.anchors.map fun a => a.handOff (s.handOffOf a.lane)) := by
    simp only [State.handOffs, hjoined, if_true, State.insert_outputs, State.handOffOf_insert]
  unfold State.emit
  rw [hsteps]
  constructor
  · simp [State.stepAnchors, State.latchAnchors, h]
  · have := State.vector_stepAnchors_anchor (steps := s.outputs.anchors.map fun a => a.handOff (s.handOffOf a.lane))
      (st := a.handOff (s.handOffOf a.lane)) s.insert (m := m) (by simp [h])
    simp only [State.insert_reports] at this
    exact this

end Sys2Proof.Machine
end

