-- ==== Sys2Proof/Laws/PerInstr.lean ====
section
/-! SUPPORT. Statements made of every command, one lemma for each constructor. -/

namespace Sys2Proof.Laws

open Sys2Proof

/-- The opcode table gives no row any bits, so no word spells the command (log entry 6). -/
def NoBitsGiven.Statement (i : Instr) : Prop := ∀ nbits w : Nat, decodeTableWord nbits w ≠ some i

/-- No word spells any command. -/
theorem noBitsGiven (i : Instr) : NoBitsGiven.Statement i := by
  intro nbits w
  simp [decodeTableWord]

theorem NoBitsGiven.powerReset :
    NoBitsGiven.Statement (.powerReset) := noBitsGiven _

theorem NoBitsGiven.powerResetRelease (straps : Member) :
    NoBitsGiven.Statement (.powerResetRelease straps) := noBitsGiven _

theorem NoBitsGiven.profileReadEnd (memory : Option (List Byte)) :
    NoBitsGiven.Statement (.profileReadEnd memory) := noBitsGiven _

theorem NoBitsGiven.lockGained :
    NoBitsGiven.Statement (.lockGained) := noBitsGiven _

theorem NoBitsGiven.lossOfLock :
    NoBitsGiven.Statement (.lossOfLock) := noBitsGiven _

theorem NoBitsGiven.joining (frame : List Byte) :
    NoBitsGiven.Statement (.joining frame) := noBitsGiven _

theorem NoBitsGiven.quietWindowEnd :
    NoBitsGiven.Statement (.quietWindowEnd) := noBitsGiven _

theorem NoBitsGiven.frameArrival (frame : List Byte) :
    NoBitsGiven.Statement (.frameArrival frame) := noBitsGiven _

theorem NoBitsGiven.frameEmission :
    NoBitsGiven.Statement (.frameEmission) := noBitsGiven _

theorem NoBitsGiven.faultBegun (anchor : AnchorNo) :
    NoBitsGiven.Statement (.faultBegun anchor) := noBitsGiven _

theorem NoBitsGiven.runCompleted (anchor : AnchorNo) :
    NoBitsGiven.Statement (.runCompleted anchor) := noBitsGiven _

theorem NoBitsGiven.realignSwitch (anchor : AnchorNo) :
    NoBitsGiven.Statement (.realignSwitch anchor) := noBitsGiven _

theorem NoBitsGiven.enterRunning (anchor : AnchorNo) :
    NoBitsGiven.Statement (.enterRunning anchor) := noBitsGiven _

theorem NoBitsGiven.insertion :
    NoBitsGiven.Statement (.insertion) := noBitsGiven _

theorem NoBitsGiven.inflightTimeout :
    NoBitsGiven.Statement (.inflightTimeout) := noBitsGiven _

theorem NoBitsGiven.historyAdvance :
    NoBitsGiven.Statement (.historyAdvance) := noBitsGiven _

theorem NoBitsGiven.sampleProcessing (samples : List Sample) :
    NoBitsGiven.Statement (.sampleProcessing samples) := noBitsGiven _

theorem NoBitsGiven.swapCompletion (strip : StripNo) (samples : List Sample) :
    NoBitsGiven.Statement (.swapCompletion strip samples) := noBitsGiven _

theorem NoBitsGiven.outputProcessing :
    NoBitsGiven.Statement (.outputProcessing) := noBitsGiven _

theorem NoBitsGiven.referenceEvent (position : Position) (rolling : Bool) (valid : Bool) :
    NoBitsGiven.Statement (.referenceEvent position rolling valid) := noBitsGiven _

theorem NoBitsGiven.keepalive (unit : UnitNo) (position : Position) :
    NoBitsGiven.Statement (.keepalive unit position) := noBitsGiven _

theorem NoBitsGiven.packingTurn (unit : UnitNo) :
    NoBitsGiven.Statement (.packingTurn unit) := noBitsGiven _

theorem NoBitsGiven.drainEnd (unit : UnitNo) :
    NoBitsGiven.Statement (.drainEnd unit) := noBitsGiven _

theorem NoBitsGiven.heldEndOffer (unit : UnitNo) :
    NoBitsGiven.Statement (.heldEndOffer unit) := noBitsGiven _

theorem NoBitsGiven.agingEvent :
    NoBitsGiven.Statement (.agingEvent) := noBitsGiven _

theorem NoBitsGiven.leadLapse (group : GroupNo) :
    NoBitsGiven.Statement (.leadLapse group) := noBitsGiven _

theorem NoBitsGiven.censusClearing :
    NoBitsGiven.Statement (.censusClearing) := noBitsGiven _

theorem NoBitsGiven.clearingComplete :
    NoBitsGiven.Statement (.clearingComplete) := noBitsGiven _

theorem NoBitsGiven.refreshWalkTurn :
    NoBitsGiven.Statement (.refreshWalkTurn) := noBitsGiven _

theorem NoBitsGiven.meterEvent :
    NoBitsGiven.Statement (.meterEvent) := noBitsGiven _

theorem NoBitsGiven.scannerVisit :
    NoBitsGiven.Statement (.scannerVisit) := noBitsGiven _

theorem NoBitsGiven.inputFramingLost (port : PortNo) :
    NoBitsGiven.Statement (.inputFramingLost port) := noBitsGiven _

theorem NoBitsGiven.inputFramingGained (port : PortNo) :
    NoBitsGiven.Statement (.inputFramingGained port) := noBitsGiven _

theorem NoBitsGiven.stripSet (source : Member) (fields : StripSetFields) :
    NoBitsGiven.Statement (.stripSet source fields) := noBitsGiven _

theorem NoBitsGiven.place (source : Member) (fields : PlaceFields) :
    NoBitsGiven.Statement (.place source fields) := noBitsGiven _

theorem NoBitsGiven.muteGroup (source : Member) (group : Byte) (state : Byte) :
    NoBitsGiven.Statement (.muteGroup source group state) := noBitsGiven _

theorem NoBitsGiven.cue (source : Member) (fields : CueFields) :
    NoBitsGiven.Statement (.cue source fields) := noBitsGiven _

theorem NoBitsGiven.cueFlush (source : Member) (strip : Byte) :
    NoBitsGiven.Statement (.cueFlush source strip) := noBitsGiven _

theorem NoBitsGiven.touch (source : Member) (strip : Byte) (touched : Byte) :
    NoBitsGiven.Statement (.touch source strip touched) := noBitsGiven _

theorem NoBitsGiven.fader (source : Member) (strip : Byte) (level : BitVec 16) :
    NoBitsGiven.Statement (.fader source strip level) := noBitsGiven _

theorem NoBitsGiven.solo (source : Member) (strip : Byte) (state : Byte) :
    NoBitsGiven.Statement (.solo source strip state) := noBitsGiven _

theorem NoBitsGiven.soloOn (source : Member) (strip : Byte) :
    NoBitsGiven.Statement (.soloOn source strip) := noBitsGiven _

theorem NoBitsGiven.soloRefresh (source : Member) (strip : Byte) :
    NoBitsGiven.Statement (.soloRefresh source strip) := noBitsGiven _

theorem NoBitsGiven.soloOff (source : Member) (strip : Byte) :
    NoBitsGiven.Statement (.soloOff source strip) := noBitsGiven _

theorem NoBitsGiven.censusSweep (source : Member) :
    NoBitsGiven.Statement (.censusSweep source) := noBitsGiven _

theorem NoBitsGiven.groupClaim (source : Member) (group : Byte) (strip : Byte) :
    NoBitsGiven.Statement (.groupClaim source group strip) := noBitsGiven _

theorem NoBitsGiven.groupRelease (source : Member) (group : Byte) (strip : Byte) :
    NoBitsGiven.Statement (.groupRelease source group strip) := noBitsGiven _

theorem NoBitsGiven.groupDelta (source : Member) (group : Byte) (strip : Byte) (change : BitVec 16) :
    NoBitsGiven.Statement (.groupDelta source group strip change) := noBitsGiven _

theorem NoBitsGiven.captureStart (source : Member) (fields : CaptureStartFields) :
    NoBitsGiven.Statement (.captureStart source fields) := noBitsGiven _

theorem NoBitsGiven.captureStop (source : Member) (unit : Byte) :
    NoBitsGiven.Statement (.captureStop source unit) := noBitsGiven _

theorem NoBitsGiven.captureSuspend (source : Member) (unit : Byte) :
    NoBitsGiven.Statement (.captureSuspend source unit) := noBitsGiven _

theorem NoBitsGiven.captureResume (source : Member) (unit : Byte) :
    NoBitsGiven.Statement (.captureResume source unit) := noBitsGiven _

theorem NoBitsGiven.captureClear (source : Member) (unit : Byte) :
    NoBitsGiven.Statement (.captureClear source unit) := noBitsGiven _

theorem NoBitsGiven.outputSet (source : Member) (fields : OutputSetFields) :
    NoBitsGiven.Statement (.outputSet source fields) := noBitsGiven _

theorem NoBitsGiven.reportControl (source : Member) (fields : ReportControlFields) :
    NoBitsGiven.Statement (.reportControl source fields) := noBitsGiven _

theorem NoBitsGiven.queryStrip (source : Member) (object : Byte) (clear : Byte) :
    NoBitsGiven.Statement (.queryStrip source object clear) := noBitsGiven _

theorem NoBitsGiven.queryCues (source : Member) (object : Byte) (clear : Byte) :
    NoBitsGiven.Statement (.queryCues source object clear) := noBitsGiven _

theorem NoBitsGiven.queryCensus (source : Member) (object : Byte) (clear : Byte) :
    NoBitsGiven.Statement (.queryCensus source object clear) := noBitsGiven _

theorem NoBitsGiven.queryGroup (source : Member) (object : Byte) (clear : Byte) :
    NoBitsGiven.Statement (.queryGroup source object clear) := noBitsGiven _

theorem NoBitsGiven.queryCapture (source : Member) (object : Byte) (clear : Byte) :
    NoBitsGiven.Statement (.queryCapture source object clear) := noBitsGiven _

theorem NoBitsGiven.queryAnchor (source : Member) (object : Byte) (clear : Byte) :
    NoBitsGiven.Statement (.queryAnchor source object clear) := noBitsGiven _

theorem NoBitsGiven.queryCounters (source : Member) (object : Byte) (clear : Byte) :
    NoBitsGiven.Statement (.queryCounters source object clear) := noBitsGiven _

theorem NoBitsGiven.nodeReset (source : Member) :
    NoBitsGiven.Statement (.nodeReset source) := noBitsGiven _

theorem NoBitsGiven.wordClockEdge (edge : Edge) :
    NoBitsGiven.Statement (.wordClockEdge edge) := noBitsGiven _

end Sys2Proof.Laws
end

