-- ==== Sys2Proof/Tests/Slice0.lean ====
section
/-! SUPPORT. Tests. Expected values come from the manual's tables and worked examples, each named where it is used. Each
`test_witness_…` shows operands and a state that meet the hypotheses of the statement it names, at the ends of their ranges. -/

-- One theorem at a time: each kernel evaluation waits for the theorems before it, and waiting threads take memory.
set_option Elab.async false

namespace Sys2Proof.Tests

open Sys2Proof Sys2Proof.Machine

/-! ### States and frames the tests use -/

/-- The state a command leaves. -/
def after (c : Instr) (s : State) : State :=
  match exec c s with
  | .next t => t
  | .fault f => nomatch f
  | .refused _ => s

/-- A JOINED node, member 3, otherwise as power reset leaves it. -/
def node : State := { State.reset with clock.start := .joined, clock.member := 3 }

/-- The same node in PASSING. -/
def passing : State := { node with clock.start := .passing }

/-- `node` with one strip record changed. -/
def nodeWith (f : Strip → Strip) : State := node.setStrip 4 (f (node.strip 4))

/-- `node` with one anchor, of lane 12 on slot 0. -/
def anchored (f : Anchor → Anchor) : State := { node with outputs.anchors := [f (Anchor.initial 12 0 0)] }

/-- `node` with unit 1 changed. -/
def unitWith (f : CaptureUnit → CaptureUnit) : State := node.setUnit 1 (f (node.captureUnit 1))

/-- `n` queued messages that are never coalesced. -/
def filler (n : Nat) : List OutMsg := List.replicate n { dest := 0#8, body := .refusal 0#8 0#8 .busy }

/-- `node` with `n` messages queued. -/
def queued (n : Nat) : State := { node with message.outbound := filler n }

/-- The bytes of eight ORPHAN lanes. -/
def lane8 : List Byte := (List.replicate 8 [0#8, 0#8, 0#8, 0#8, 0x80#8]).flatten

/-- A frame of emitter 2 with every lane ORPHAN, its slot and its check code. -/
def frame (slot : List Byte) (crc : BitVec 16) : List Byte :=
  [0xC3#8, 2#8, 0#8] ++ lane8 ++ lane8 ++ lane8 ++ lane8 ++ lane8 ++ lane8 ++ lane8 ++ lane8 ++ slot ++ bytes16 crc

/-- The 32 bytes of a slot, from its header and its first payload bytes. -/
def slotOf (head : List Byte) : List Byte := head ++ List.replicate (32 - head.length) 0#8

theorem test_crc_lane1 : lane8.foldl crcByte ([0xC3#8, 2#8, 0#8].foldl crcByte 0xFFFF#16) = 0x49BB#16 := by decide +kernel
theorem test_crc_lane2 : lane8.foldl crcByte 0x49BB#16 = 0x051A#16 := by decide +kernel
theorem test_crc_lane3 : lane8.foldl crcByte 0x051A#16 = 0x602A#16 := by decide +kernel
theorem test_crc_lane4 : lane8.foldl crcByte 0x602A#16 = 0xE27F#16 := by decide +kernel
theorem test_crc_lane5 : lane8.foldl crcByte 0xE27F#16 = 0xBE2F#16 := by decide +kernel
theorem test_crc_lane6 : lane8.foldl crcByte 0xBE2F#16 = 0x65E6#16 := by decide +kernel
theorem test_crc_lane7 : lane8.foldl crcByte 0x65E6#16 = 0x750A#16 := by decide +kernel
theorem test_crc_lane8 : lane8.foldl crcByte 0x750A#16 = 0x1862#16 := by decide +kernel

/-- A frame of this shape is good exactly where its slot and its code belong together. -/
theorem frame_check (slot : List Byte) (crc : BitVec 16) (hlen : slot.length = 32) :
    isFrame (frame slot crc) = true ∧ goodFrame (frame slot crc) = (slot.foldl crcByte 0x1862#16 == crc) := by
  have hl : lane8.length = 40 := by decide
  have htake : (frame slot crc).take 355 =
      [0xC3#8, 2#8, 0#8] ++ lane8 ++ lane8 ++ lane8 ++ lane8 ++ lane8 ++ lane8 ++ lane8 ++ lane8 ++ slot := by
    unfold frame
    exact List.take_left' (by simp [hl, hlen])
  have hfull : (frame slot crc).length = 357 := by simp [frame, hl, hlen, bytes16]
  refine ⟨by simp [isFrame, hfull]; rfl, ?_⟩
  have hfield : field16 (frame slot crc) 355 = crc := by
    unfold field16 byteAt frame
    rw [List.getD_append_right _ _ _ _ (by simp [hl, hlen]), List.getD_append_right _ _ _ _ (by simp [hl, hlen])]
    simp only [List.length_append, hl, hlen, List.length_cons, List.length_nil, bytes16]
    show crc.extractLsb' 8 8 ++ crc.extractLsb' 0 8 = crc
    apply BitVec.eq_of_toNat_eq
    simp only [BitVec.toNat_append, BitVec.extractLsb'_toNat, Nat.shiftRight_zero]
    rw [← Nat.shiftLeft_add_eq_or_of_lt (Nat.mod_lt _ (by decide)), Nat.shiftLeft_eq, Nat.shiftRight_eq_div_pow]
    omega
  have hemitter : byteAt (frame slot crc) 1 = 2#8 := rfl
  unfold goodFrame
  rw [htake, hfield, hemitter]
  simp only [crc16, List.foldl_append, test_crc_lane1, test_crc_lane2, test_crc_lane3, test_crc_lane4, test_crc_lane5,
    test_crc_lane6, test_crc_lane7, test_crc_lane8]
  rfl

theorem frame_good (slot : List Byte) (crc : BitVec 16) (hlen : slot.length = 32)
    (hcrc : slot.foldl crcByte 0x1862#16 = crc) : isFrame (frame slot crc) = true ∧ goodFrame (frame slot crc) = true := by
  rw [(frame_check slot crc hlen).2, hcrc]
  exact ⟨(frame_check slot crc hlen).1, by simp⟩

/-- An empty slot. -/
def emptyFrame : List Byte := frame (slotOf []) 0x7BB5#16
/-- TOUCH of member 5 to every member, hop count 14: strip 1, yes. -/
def touchFrame : List Byte := frame (slotOf [0x14#8, 5#8, 255#8, 14#8, 1#8, 1#8]) 0xE5A7#16
/-- TOUCH of member 15 to member 9, hop count 14. -/
def elsewhereFrame : List Byte := frame (slotOf [0x14#8, 15#8, 9#8, 14#8, 1#8, 1#8]) 0xE4ED#16
/-- A source that is no member: a stray. -/
def strayFrame : List Byte := frame (slotOf [0x14#8, 16#8, 255#8, 0#8, 1#8, 1#8]) 0xE531#16
/-- Hop count 15: a stray. -/
def staleFrame : List Byte := frame (slotOf [0x14#8, 5#8, 255#8, 15#8, 1#8, 1#8]) 0x1541#16
/-- SOLO ON of member 3 come back. -/
def ownFrame : List Byte := frame (slotOf [0x43#8, 3#8, 255#8, 2#8, 7#8]) 0x4241#16

/-- The code 0x22, which R100 gives to no kind, of member 5 to every member. -/
def unnamedFrame : List Byte := frame (slotOf [0x22#8, 5#8, 255#8, 0#8]) 0xBB4F#16
/-- QUERY of member 5 to every member, item 8. -/
def queryFrame : List Byte := frame (slotOf [0x1E#8, 5#8, 255#8, 0#8, 8#8, 7#8]) 0x27D9#16

theorem emptyFrame_good : isFrame emptyFrame = true ∧ goodFrame emptyFrame = true :=
  frame_good _ _ (by decide) (by decide +kernel)
theorem touchFrame_good : isFrame touchFrame = true ∧ goodFrame touchFrame = true :=
  frame_good _ _ (by decide) (by decide +kernel)
theorem elsewhereFrame_good : isFrame elsewhereFrame = true ∧ goodFrame elsewhereFrame = true :=
  frame_good _ _ (by decide) (by decide +kernel)
theorem strayFrame_good : isFrame strayFrame = true ∧ goodFrame strayFrame = true :=
  frame_good _ _ (by decide) (by decide +kernel)
theorem staleFrame_good : isFrame staleFrame = true ∧ goodFrame staleFrame = true :=
  frame_good _ _ (by decide) (by decide +kernel)
theorem ownFrame_good : isFrame ownFrame = true ∧ goodFrame ownFrame = true :=
  frame_good _ _ (by decide) (by decide +kernel)
theorem unnamedFrame_good : isFrame unnamedFrame = true ∧ goodFrame unnamedFrame = true :=
  frame_good _ _ (by decide) (by decide +kernel)
theorem queryFrame_good : isFrame queryFrame = true ∧ goodFrame queryFrame = true :=
  frame_good _ _ (by decide) (by decide +kernel)

/-! ### Well-formed commands: each check refuses its ill-formed term -/

theorem test_wellFormed_frame_length : (Instr.frameArrival [0xC3#8, 2#8]).wellFormed = false := by decide
theorem test_wellFormed_frame_marker : (Instr.frameArrival (List.replicate 357 0#8)).wellFormed = false := by decide +kernel
theorem test_wellFormed_joining : (Instr.joining []).wellFormed = false := by decide
theorem test_wellFormed_samples : (Instr.sampleProcessing (List.replicate 31 0#24)).wellFormed = false := by decide
theorem test_wellFormed_swap_samples : (Instr.swapCompletion 0 (List.replicate 33 0#24)).wellFormed = false := by decide
theorem test_wellFormed_good : (Instr.frameArrival emptyFrame).wellFormed = true := emptyFrame_good.1

/-! ### Arithmetic, from the manual's tables -/

/-- R43, the table of coefficients. -/
theorem test_coef_table : coef 120 = 16697825 ∧ coef 60 = 8368737 ∧ coef 0 = 4194304 ∧ coef (-60) = 2102132 ∧
    coef (-120) = 1053562 ∧ coef (-200) = 419430 := by decide +kernel
theorem test_coef_floor : coef (-400) = 41943 ∧ coef (-600) = 4194 ∧ coef (-800) = 419 ∧ coef (-998) = 43 ∧ coef (-997) = 43 ∧
    coef (-999) = 42 ∧ coef (-1000) = 0 ∧ coef (-1440) = 0 := by decide +kernel

/-- R55, the table of rounded quotients. -/
theorem test_roundDiv_table : roundDiv 5 2 = 3 ∧ roundDiv 24999 10000 = 2 ∧ roundDiv (-5) 2 = -2 ∧
    roundDiv (-25001) 10000 = -3 ∧ roundDiv (-3) 2 = -1 ∧ roundDiv 1 2 = 1 ∧ roundDiv (-1) 2 = 0 := by decide

/-- R49: a ramp from 0 toward 42 with R = 96 gives 0 for steps 1 and 2, and 1 at step 3. -/
theorem test_ramp_start : (Ramp.advance (Ramp.advance (Ramp.rest.retarget 42 96))).applied = 0 ∧
    (Ramp.advance (Ramp.advance (Ramp.advance (Ramp.rest.retarget 42 96)))).applied = 1 := by decide

/-- R42: a fader at +120 with a trim of +50 gives +120. -/
theorem test_summed_clamp : ({ Strip.reset 12000 with live := 120, trim := 50 }).summed = 120 := by decide

/-- The check code of R5 over the nine ASCII digits, the usual test string of this generator and start value. -/
theorem test_crc16 : crc16 [0x31#8, 0x32#8, 0x33#8, 0x34#8, 0x35#8, 0x36#8, 0x37#8, 0x38#8, 0x39#8] = 0x29B1#16 := by
  decide +kernel

/-- R65, the concealment table: 1,000,001, then three bad periods; and −7 toward zero. -/
theorem test_conceal : (1000001 : Int).tdiv 2 = 500000 ∧
    ((Anchor.initial 0 0 0).write (.good 1000001 2)).written .bad = 500000 ∧
    ({ Anchor.initial 0 0 0 with lastWritten := -7 }).written .bad = -3 := by decide

/-- R67 and section 1.10: Λ = 48 and a received age of 2 give D = 41. -/
theorem test_outputDelay : outputDelay 48 2 = 41 ∧ outputDelay 34 15 = 1 ∧ outputDelay 240 0 = 237 := by decide

/-- R75: F_d at a master of +6.0 dB, and the clamp at 0.0 dB. -/
theorem test_output_scale : clampSample (roundDiv (3000000 * 8368737) unityCoef) = 5985787 ∧
    clampSample (roundDiv (-6000000 * 8368737) unityCoef) = -8388608 ∧
    clampSample (roundDiv (9000000 * 4194304) unityCoef) = 8388607 := by decide

/-- R163, the table of peak codes. -/
theorem test_peakCode : peakCode 2004749 = 3915 ∧ peakCode 8388608 = 16384 ∧ peakCode 8388607 = 16383 ∧
    peakCode 33395650 = 65225 ∧ peakCode 511 = 0 := by decide

/-! ### Operations, from the manual's worked examples -/

/-- R84: base 0x40 under mask 0xF0 accepts 0x40 to 0x4F. -/
theorem test_accept_range : (AcceptRange.mk 0x40#8 0xF0#8 true).accepts 0x4F#8 = true ∧
    (AcceptRange.mk 0x40#8 0xF0#8 true).accepts 0x50#8 = false ∧
    (AcceptRange.mk 0x40#8 0xF0#8 false).accepts 0x40#8 = false := by decide

/-- A cue list at 1000, 2000, … 16000 (section 6.8). -/
def fullList : List Cue := (List.range 16).map fun i => { position := BitVec.ofNat 48 (1000 * (i + 1)), level := -100, ramp := 480 }

/-- Section 6.8: at the full list 8500 displaces 16000, and 20000 is dropped. -/
theorem test_full_list : (offerCue { position := 8500#48, level := -80, ramp := 480 } fullList).map Cue.position =
    [1000, 2000, 3000, 4000, 5000, 6000, 7000, 8000, 8500, 9000, 10000, 11000, 12000, 13000, 14000, 15000] ∧
    offerCue { position := 20000#48, level := -80, ramp := 480 } fullList = fullList := by decide +kernel

/-- Section 6.8: a cue at a position the list holds replaces it, and does not overflow. -/
theorem test_cue_replaces : cueOverflows { position := 5000#48, level := -200, ramp := 480 } fullList = false ∧
    (offerCue { position := 5000#48, level := -200, ramp := 480 } fullList).length = 16 := by decide +kernel

/-- Section 7.8: the keys (1, 5), (5, 5) and (9, 5) share home 37. -/
theorem test_home : Key.home { member := 1, strip := 5 } = 37 ∧ Key.home { member := 5, strip := 5 } = 37 ∧
    Key.home { member := 9, strip := 5 } = 37 := by decide

/-- Section 7.8: three keys learned in turn use link entries 0 and 1. -/
def threeKeys : CensusTable :=
  ((CensusTable.vacant.learn { member := 1, strip := 5 }).learn { member := 5, strip := 5 }).learn { member := 9, strip := 5 }

theorem test_learn_chain : threeKeys.home[(37 : Fin 128)] =
    some { key := { member := 1, strip := 5 }
           chain := [{ entry := 0, key := { member := 5, strip := 5 } }, { entry := 1, key := { member := 9, strip := 5 } }] } ∧
    threeKeys.free.length = 62 := by decide +kernel

/-- Section 7.8: removing the home key promotes (5, 5), and link entry 0 is free again, on top. -/
theorem test_remove_promotes : (threeKeys.remove { member := 1, strip := 5 }).home[(37 : Fin 128)] =
    some { key := { member := 5, strip := 5 }, chain := [{ entry := 1, key := { member := 9, strip := 5 } }] } ∧
    (threeKeys.remove { member := 1, strip := 5 }).free.head? = some 0 := by decide +kernel

/-- Section 6.7: strip 4 in LATCH, its automation level at −200. -/
def latchStrip : Strip := { Strip.reset 12000 with mode := .latch, auto := -200 }

/-- Section 6.7: the touch copies −200 and, while parked, does not latch; the change to rolling latches it. -/
theorem test_latch_pass : (latchStrip.touchEdge false).live = -200 ∧ (latchStrip.touchEdge false).latched = false ∧
    (latchStrip.touchEdge false).startRoll.latched = true := by decide

/-- Section 6.7: rolling to parked leaves the automation level in force, over the glide of 12000. -/
theorem test_latch_park :
    (node.parkStrip { latchStrip with latched := true, live := -120, auto := -300 }).effective = -300 ∧
    (node.parkStrip { latchStrip with latched := true, live := -120, auto := -300 }).ramp.length = 12000 := by decide +kernel

/-- R36: a tap on lane 64 makes a PLACE malformed, and two taps on lane 9 do. -/
theorem test_place_malformed :
    placeTaps { strip := 0#8, part := 1#8, parts := 1#8, count := 1#8, tap0 := ⟨64#8, 0#16⟩, tap1 := ⟨0#8, 0#16⟩
                tap2 := ⟨0#8, 0#16⟩, tap3 := ⟨0#8, 0#16⟩ } none = none ∧
    placeTaps { strip := 0#8, part := 1#8, parts := 1#8, count := 2#8, tap0 := ⟨9#8, 1#16⟩, tap1 := ⟨9#8, 2#16⟩
                tap2 := ⟨0#8, 0#16⟩, tap3 := ⟨0#8, 0#16⟩ } none = none := by decide

/-- R100: a CUE payload read field by field. -/
theorem test_read_cue : readCue [20#8, 0#8, 0#8, 0#8, 0#8, 0x21#8, 0x34#8, 0xFF#8, 0xB0#8, 0x01#8, 0xE0#8] =
    { strip := 20#8, position := 8500#48, level := 0xFFB0#16, ramp := 480#16 } ∧ (0xFFB0#16).toInt = -80 := by decide

/-- R100: a NOTICE and a GROUP DELTA as laid out. -/
theorem test_body_bytes : (Body.notice 64 0x020000#24 3).bytes = [64#8, 2#8, 0#8, 0#8, 3#8] ∧
    (Body.delta 0 7 (-1)).bytes = [1#8, 7#8, 0xFF#8, 0xFF#8] := by decide

/-- R93: two moves of −1000 queued as one delta stop at −1560. -/
theorem test_delta_sum : OutMsg.addChange (-1000) { dest := broadcast, body := .delta 0 7 (-1000) } =
    { dest := broadcast, body := .delta 0 7 (-1560) } := by decide

/-- R100: a MUTE GROUP of group 16 sets bit 15. -/
theorem test_withMute : withMute 16 true 0#16 = 0x8000#16 ∧ withMute 1 false 0x8001#16 = 0x8000#16 := by decide

/-- R154: records whose offsets pass 65535 begin a message of their own. -/
theorem test_packGroup : (packGroup [⟨100#48, 0, 0#8, 0⟩, ⟨65635#48, 0, 0#8, 0⟩, ⟨65636#48, 0, 0#8, 0⟩]).length = 2 := by decide

/-- A profile: member 20 clamped to 15, aging 9 to 8, Λ 33 to 34, meter 0 to 480, glide 65535 to 48000 (R169). -/
def profileBytes : List Byte :=
  [1#8, 20#8, 0x40#8, 0xF0#8, 1#8, 0#8, 0#8, 0#8, 9#8, 33#8, 0#8, 0#8, 0xFF#8, 0xFF#8, 0#8, 0xE0#8, 0x1D#8]

theorem test_profile_clamps : goodProfile profileBytes = true ∧ readProfile profileBytes =
    { reportMember := 15, range1 := { base := 0x40#8, mask := 0xF0#8, enabled := true }
      range2 := { base := 0#8, mask := 0#8, enabled := false }, aging := 384000, latency := 34, meter := 480, glide := 48000 } := by
  decide +kernel

/-- R63: an entry whose lane or slot is taken, or lies outside the range, is ignored. -/
theorem test_acceptEntries : (acceptEntries [⟨12, 0, 500⟩, ⟨12, 1, 0⟩, ⟨13, 0, 0⟩, ⟨64, 2, 0⟩, ⟨14, 31, -9999⟩]).map
    (fun a => (a.lane.val, a.slot.val, a.level)) = [(12, 0, 120), (14, 31, -1440)] := by decide +kernel

/-- The head of a profile of 33 anchor entries, and eight of its entries, all of lane 12 on slot 0. -/
def crowdedHead : List Byte := [1#8, 3#8, 0#8, 0#8, 0#8, 0#8, 0#8, 0#8, 2#8, 48#8, 0x12#8, 0xC0#8, 0x2E#8, 0xE0#8, 33#8]
def crowdedRow : List Byte := (List.replicate 8 [12#8, 0#8, 0#8, 0#8]).flatten

/-- The whole profile with its check code: one entry is accepted, 31 are ignored and one is not taken. -/
def crowdedBytes : List Byte :=
  crowdedHead ++ crowdedRow ++ crowdedRow ++ crowdedRow ++ crowdedRow ++ [12#8, 0#8, 0#8, 0#8] ++ [0xFB#8, 0xB7#8]

theorem test_crc_crowded1 : crowdedRow.foldl crcByte (crowdedHead.foldl crcByte 0xFFFF#16) = 0x161D#16 := by decide +kernel
theorem test_crc_crowded2 : crowdedRow.foldl crcByte 0x161D#16 = 0x389F#16 := by decide +kernel
theorem test_crc_crowded3 : crowdedRow.foldl crcByte 0x389F#16 = 0xAC23#16 := by decide +kernel
theorem test_crc_crowded4 : crowdedRow.foldl crcByte 0xAC23#16 = 0xFA10#16 := by decide +kernel
theorem test_crc_crowded5 : [12#8, 0#8, 0#8, 0#8].foldl crcByte 0xFA10#16 = 0xFBB7#16 := by decide +kernel

theorem crowded_good : goodProfile crowdedBytes = true := by
  have hn : (byteAt crowdedBytes 14).toNat = 33 := by decide +kernel
  have htake : crowdedBytes.take 147 =
      crowdedHead ++ crowdedRow ++ crowdedRow ++ crowdedRow ++ crowdedRow ++ [12#8, 0#8, 0#8, 0#8] := by
    unfold crowdedBytes
    exact List.take_left' (by decide +kernel)
  have hcrc : crc16 (crowdedBytes.take 147) = 0xFBB7#16 := by
    rw [htake]
    simp only [crc16, List.foldl_append, test_crc_crowded1, test_crc_crowded2, test_crc_crowded3, test_crc_crowded4,
      test_crc_crowded5]
  unfold goodProfile
  simp only [hn, Nat.reduceMul, Nat.reduceAdd, hcrc]
  decide +kernel

/-- R63, R169: of those 33 entries one is taken, and PROFILE FAULT is latched 32 times. -/
theorem test_crowded_profile : (loadProfile (some crowdedBytes)).anchors.length = 1 ∧
    (loadProfile (some crowdedBytes)).faults = 32 := by
  simp only [loadProfile, crowded_good, if_true]
  decide +kernel

/-! ### One step each -/

/-- R14, R61: the sums of the period before enter the history at depth 0 although the advance was not sent ahead of the processing. -/
theorem test_advance_comes_first : (after (.sampleProcessing (List.replicate 32 0#24))
    { node with adder.handed := zeroRow.set 3 5 }).adder.history[(0 : Fin 31)][(3 : LaneNo)] = 5 := by decide +kernel

/-- R15, R14: an emission taken ahead of its period's advance adds the contribution at the depth after it. -/
theorem test_emission_reads_the_advanced_history : ((after .frameEmission
    { node with
      adder.history := LaneAdder.zero.history.set 1 (zeroRow.set 20 7)
      port.due := some { lanes := (Vector.replicate 64 Lane.orphan).set 20 (.live 0 100), slot := none, offered := false }
    }).port.transmit.map fun f => f.lanes[(20 : LaneNo)]) = some (.live 1 107) := by decide +kernel

/-- R90, log entry 4: a NODE RESET between the insertion and its emission leaves the filled slot to that PASSING emission. -/
theorem test_node_reset_between_insertion_and_emission :
    ((after .frameEmission (after (.nodeReset 5) (after .insertion { queued 1 with
      port.due := some { lanes := Vector.replicate 64 Lane.orphan, slot := none, offered := true } }))).port.transmit.bind
        Frame.slot).isSome = true := by decide +kernel

theorem test_solo_active : (after (.soloOn 5 9#8) node).census.soloActive = true := by decide +kernel
theorem test_surplus_holds : (after (.frameArrival emptyFrame)
    { node with port.current := .bad, message.counters.surplus := 65535 }).message.counters.surplus = 65535 := by decide +kernel
theorem test_latch_count_holds : (EventVector.latch { events := 0#24, count := 255 } .stray).count = 255 := by decide
theorem test_group_zero_refused : (after (.queryGroup 5 0#8 0#8) node).message.outbound =
    [{ dest := 5#8, body := .refusal 0x1E#8 0#8 .malformed }] := by decide +kernel
theorem test_counters_cleared : (after (.queryCounters 5 0#8 1#8) { node with message.counters.stray := 7 }).message.counters.stray = 0 := by
  decide +kernel
theorem test_input_fault_once : (after (.inputFramingLost 2) node).reports.vectors[nodeSource].count = 0 ∧
    (after (.inputFramingLost 2) (after (.inputFramingGained 2) node)).reports.vectors[nodeSource].count = 1 := by decide +kernel

/-! ### Witnesses: resets, start and arrivals -/

/-- `node` before its profile is read. -/
def loading : State := { node with clock.start := .loading }

/-- `node` without lock, after `n` edges within the window. -/
def unlocked (n : Nat) : State := { node with clock.start := .unlocked, clock.lockCount := n }

/-- `node` with the arrival of the current period already taken. -/
def heard (a : Arrival) : State := { node with port.current := a }

/-- A lane row, a hop entry and a due emission with one lane of one age, the rest ORPHAN. -/
def dueLane (lane : LaneNo) (age : Fin 16) (value : Int) : HopEntry :=
  { lanes := (Vector.replicate 64 Lane.orphan).set lane (.live age value), slot := none, offered := true }

theorem test_witness_StepRunsFrontCommand : node.pending = [] := rfl

theorem test_witness_PowerResetAndReleaseEnterLoading :
    State.reset.clock.start = .reset ∧ node.clock.start ≠ .reset := by decide

theorem test_witness_ProfileReadTakesTheProfileOrTheDefault :
    loading.clock.start = .loading ∧ (∀ bytes ∈ (none : Option (List Byte)), goodProfile bytes = false) ∧
    (∀ bytes ∈ some ([] : List Byte), goodProfile bytes = false) ∧
    (∀ bytes ∈ some (profileBytes.set 0 2#8), goodProfile bytes = false) ∧ goodProfile profileBytes = true ∧
    goodProfile crowdedBytes = true := by
  refine ⟨rfl, by simp, ?_, ?_, by decide +kernel, crowded_good⟩
  · rintro _ ⟨⟩; decide +kernel
  · rintro _ ⟨⟩; decide +kernel

/-- An entry at the ends of its ranges beside one accepted before it, and one entry for each way of being ignored. -/
theorem test_witness_AcceptedAnchorsHaveLanesAndSlotsOfTheirOwn :
    (⟨63, 31, 500⟩ : AnchorEntry).lane = (63 : LaneNo).val ∧ (⟨63, 31, 500⟩ : AnchorEntry).slot = (31 : SlotNo).val ∧
    (∀ a ∈ acceptEntries [⟨0, 0, 0⟩], a.lane ≠ 63 ∧ a.slot ≠ 31) ∧ 64 ≤ (⟨64, 1, 0⟩ : AnchorEntry).lane ∧
    32 ≤ (⟨1, 32, 0⟩ : AnchorEntry).slot ∧
    (∃ a ∈ acceptEntries [⟨0, 0, 0⟩], a.lane.val = (⟨0, 1, 0⟩ : AnchorEntry).lane) ∧
    ∃ a ∈ acceptEntries [⟨0, 0, 0⟩], a.slot.val = (⟨1, 0, 0⟩ : AnchorEntry).slot := by decide +kernel

theorem test_witness_LockCountFollowsTheEdgesToLock :
    State.reset.clock.start = .reset ∧ loading.clock.start = .loading ∧ (unlocked 0).clock.start = .unlocked ∧
    (unlocked 0).clock.lockCount < 255 ∧ (unlocked 254).clock.lockCount < 255 ∧ (unlocked 255).clock.lockCount = 255 := by
  decide

theorem test_witness_LossOfLockKeepsAllButTheLoop :
    passing.clock.start = .passing ∧ node.clock.start = .joined := by decide

theorem test_witness_NodeResetKeepsLockProfileAndHopBuffer : node.Acts 0 ∧ node.Acts 15 := by decide

theorem test_witness_EdgeClosesAPeriodAndOpensTheNext :
    passing.clock.start = .passing ∧ passing.port.current = .awaiting ∧ node.clock.start = .joined ∧
    (heard .bad).clock.start = .joined ∧ (heard .bad).port.current ≠ .awaiting := by decide

theorem test_witness_SurplusArrivalIsOnlyCounted :
    (heard .bad).periodsPass = true ∧ (heard .bad).port.current ≠ .awaiting ∧
    (heard (.good (dueLane 0 0 0))).port.current ≠ .awaiting ∧ isFrame emptyFrame = true :=
  ⟨rfl, by decide, by simp [heard], emptyFrame_good.1⟩

/-- `emptyFrame` with its check code one off. -/
def brokenFrame : List Byte := frame (slotOf []) 0x7BB4#16

theorem test_witness_BadArrivalIsMissing :
    passing.periodsPass = true ∧ node.periodsPass = true ∧ isFrame ([] : List Byte) = false ∧
    node.port.current = .awaiting ∧ isFrame brokenFrame = true ∧ goodFrame brokenFrame = false := by
  refine ⟨rfl, rfl, rfl, rfl, (frame_check _ _ (by decide)).1, ?_⟩
  rw [brokenFrame, (frame_check _ _ (by decide)).2]
  decide +kernel

theorem test_witness_JoinedArrivalThatActsOnNothing :
    node.AwaitsGood emptyFrame ∧ node.AwaitsGood strayFrame ∧ node.AwaitsGood staleFrame ∧ node.AwaitsGood elsewhereFrame ∧
    node.clock.start = .joined :=
  ⟨⟨rfl, rfl, emptyFrame_good⟩, ⟨rfl, rfl, strayFrame_good⟩, ⟨rfl, rfl, staleFrame_good⟩, ⟨rfl, rfl, elsewhereFrame_good⟩, rfl⟩

/-- The slots of those frames: an empty one, two strays at the ends of their ranges, and a message that is not accepted. -/
theorem test_witness_JoinedArrivalThatActsOnNothing_slots :
    frameSlot emptyFrame = none ∧
    (frameSlot strayFrame).map (fun m => m.source.toNat) = some 16 ∧
    (frameSlot staleFrame).map (fun m => (m.source.toNat, m.hop.toNat)) = some (5, 15) ∧
    (frameSlot elsewhereFrame).map (fun m => (m.source.toNat, m.hop.toNat, node.accepts m.dest)) = some (15, 14, false) ∧
    memberByte node.clock.member = 3#8 := by decide +kernel

/-- `passing` after `n` good arrivals in a row. -/
def passingAfter (n : Nat) : State := { passing with clock.goodArrivals := n }

theorem test_witness_PassingArrivalActsOnNothing :
    (passingAfter 94).AwaitsGood emptyFrame ∧ (passingAfter 94).AwaitsGood ownFrame ∧
    (passingAfter 94).AwaitsGood strayFrame ∧ (passingAfter 94).AwaitsGood touchFrame ∧
    (passingAfter 94).clock.start = .passing ∧ (passingAfter 94).clock.goodArrivals < 95 :=
  ⟨⟨rfl, rfl, emptyFrame_good⟩, ⟨rfl, rfl, ownFrame_good⟩, ⟨rfl, rfl, strayFrame_good⟩, ⟨rfl, rfl, touchFrame_good⟩, rfl,
    by decide⟩

/-- The slots of those frames: an own message, and another member's. -/
theorem test_witness_PassingArrivalActsOnNothing_slots :
    (frameSlot ownFrame).map (fun m => (m.kind, m.source)) = some (0x43#8, memberByte passing.clock.member) ∧
    (frameSlot touchFrame).map (fun m => (m.source.toNat, m.hop.toNat)) = some (5, 14) := by decide +kernel

/-- One frame for each class of slot; the slots are those of the two theorems above. -/
theorem test_witness_NinetySixthGoodArrivalJoins :
    (passingAfter 95).AwaitsGood emptyFrame ∧ (passingAfter 95).AwaitsGood touchFrame ∧
    (passingAfter 95).AwaitsGood ownFrame ∧ (passingAfter 95).AwaitsGood strayFrame ∧ (passingAfter 95).AwaitsGood staleFrame ∧
    (passingAfter 95).clock.start = .passing ∧ (passingAfter 95).clock.goodArrivals = 95 :=
  ⟨⟨rfl, rfl, emptyFrame_good⟩, ⟨rfl, rfl, touchFrame_good⟩, ⟨rfl, rfl, ownFrame_good⟩, ⟨rfl, rfl, strayFrame_good⟩,
    ⟨rfl, rfl, staleFrame_good⟩, rfl, rfl⟩

theorem test_witness_AcceptedMessageActsAsItsCommand :
    ∃ m : Message, node.AwaitsGood touchFrame ∧ node.Acts 5 ∧ frameSlot touchFrame = some m ∧ m.source = memberByte 5 ∧
      m.hop.toNat < 15 ∧ node.accepts m.dest = true ∧
      commandOf 5 m.kind m.payload.toList = some (.touch 5 1#8 1#8) :=
  ⟨{ kind := 0x14#8, source := 5#8, dest := 255#8, hop := 14#8, payload := payloadOf [1#8, 1#8] },
    ⟨rfl, rfl, touchFrame_good⟩, by decide, by decide +kernel, rfl, by decide, by decide, by decide +kernel⟩

/-- A kind that is not acted on, and a QUERY of an item outside the table. -/
theorem test_witness_AcceptedMessageActsAsItsCommand_others :
    node.AwaitsGood unnamedFrame ∧ node.AwaitsGood queryFrame ∧
    (frameSlot unnamedFrame).map (fun m => (m.kind.toNat, m.source, m.hop, node.accepts m.dest)) =
      some (0x22, memberByte 5, 0#8, true) ∧
    (frameSlot queryFrame).map (fun m => (m.kind, m.source, m.hop, node.accepts m.dest, (byteAt m.payload.toList 0).toNat)) =
      some (0x1E#8, memberByte 5, 0#8, true, 8) :=
  ⟨⟨rfl, rfl, unnamedFrame_good⟩, ⟨rfl, rfl, queryFrame_good⟩, by decide +kernel, by decide +kernel⟩

/-- R84 at the ends of the destinations a range can name: with an all-zero mask every one of 16 to 254 is accepted, and no other. -/
theorem test_accepts_bounds :
    (List.map (fun d => { node with clock.profile.range2 := { base := 0#8, mask := 0#8, enabled := true } }.accepts d)
      [0#8, 2#8, 3#8, 15#8, 16#8, 254#8, 255#8]) = [false, false, true, false, true, true, true] := by decide +kernel

/-- `node` with an in-flight list. -/
def inFlight (l : List InFlight) : State := { node with message.inFlight := l }

/-- The message of `ownFrame`. -/
def ownMessage : Message := { kind := 0x43#8, source := 3#8, dest := 255#8, hop := 2#8, payload := payloadOf [7#8] }

theorem test_witness_ReturnRetiresOlderEntriesAsLost :
    (inFlight ([⟨0x45#8, 0⟩, ⟨0x62#8, 1⟩] ++ ⟨0x43#8, 1⟩ :: [⟨0x43#8, 2⟩])).AwaitsGood ownFrame ∧
    (inFlight ([] ++ ⟨0x43#8, 1⟩ :: [])).AwaitsGood ownFrame ∧ node.clock.start = .joined ∧
    frameSlot ownFrame = some ownMessage ∧ ownMessage.source = memberByte node.clock.member ∧
    (∀ x ∈ [(⟨0x45#8, 0⟩ : InFlight), ⟨0x62#8, 1⟩], x.kind ≠ ownMessage.kind) ∧
    (⟨0x43#8, 1⟩ : InFlight).kind = ownMessage.kind :=
  ⟨⟨rfl, rfl, ownFrame_good⟩, ⟨rfl, rfl, ownFrame_good⟩, rfl, by decide +kernel, by decide, by decide, rfl⟩

/-- `node` in a period, its quiet window running since period 0, with an entry of another kind in flight. -/
def quietAt (quiet : Option Nat) (period : Nat) : State :=
  { node with clock.period := period, message.quiet := quiet, message.inFlight := [⟨0x62#8, 1⟩] }

theorem test_witness_UnmatchedReturnIsAClashOutsideTheQuietWindow :
    (quietAt (some 0) 39).AwaitsGood ownFrame ∧ (quietAt (some 0) 40).AwaitsGood ownFrame ∧ (quietAt none 40).AwaitsGood ownFrame ∧
    frameSlot ownFrame = some ownMessage ∧ ownMessage.source = memberByte node.clock.member ∧
    (∀ x ∈ (quietAt none 40).message.inFlight, x.kind ≠ ownMessage.kind) ∧
    (∃ joinedAt, (quietAt (some 0) 39).message.quiet = some joinedAt ∧ (quietAt (some 0) 39).clock.period < joinedAt + 40) ∧
    (∀ joinedAt, (quietAt (some 0) 40).message.quiet = some joinedAt → joinedAt + 40 ≤ (quietAt (some 0) 40).clock.period) ∧
    ∀ joinedAt, (quietAt none 40).message.quiet = some joinedAt → joinedAt + 40 ≤ (quietAt none 40).clock.period := by
  refine ⟨⟨rfl, rfl, ownFrame_good⟩, ⟨rfl, rfl, ownFrame_good⟩, ⟨rfl, rfl, ownFrame_good⟩, by decide +kernel, by decide,
    by decide, ⟨0, rfl, by decide⟩, ?_, ?_⟩
  · rintro _ ⟨⟩; decide
  · rintro _ ⟨⟩

/-- The entry of period 1 is gone at period 41 and stays at period 40. -/
theorem test_witness_FortyPeriodsEndTheQuietWindowAndRetireEntries :
    (quietAt (some 0) 39).message.quiet = some 0 ∧ (quietAt (some 0) 39).clock.period < 0 + 40 ∧
    0 + 40 ≤ (quietAt (some 0) 40).clock.period ∧
    0 = (quietAt none 40).message.inFlight.countP (fun e => decide (e.period + 40 ≤ (quietAt none 40).clock.period)) ∧
    1 = (quietAt none 41).message.inFlight.countP (fun e => decide (e.period + 40 ≤ (quietAt none 41).clock.period)) := by
  decide

/-! ### Witnesses: frames out, anchors and samples -/

/-- `node` with an emission due, `n` messages queued and `k` entries in flight. -/
def dueWith (e : HopEntry) (n k : Nat) : State :=
  { queued n with port.due := some e, message.inFlight := List.replicate k ⟨0x61#8, 0⟩ }

theorem test_witness_InsertionTakesTheHeadOfTheQueue :
    (dueWith (dueLane 12 14 7) 1 7).clock.start = .joined ∧ (dueWith (dueLane 12 14 7) 1 7).port.transmit = none ∧
    (dueWith (dueLane 12 14 7) 1 7).port.due = some (dueLane 12 14 7) ∧ (dueLane 12 14 7).offered = true ∧
    (dueWith (dueLane 12 14 7) 1 7).message.outbound = { dest := 0#8, body := .refusal 0#8 0#8 .busy } :: [] ∧
    (dueWith (dueLane 12 14 7) 1 7).message.inFlight.length < 8 := by
  refine ⟨rfl, rfl, rfl, rfl, rfl, by decide⟩

/-- One state for each condition of the insertion that can fail. -/
theorem test_witness_InsertionTakesTheHeadOfTheQueue_none :
    passing.clock.start ≠ .joined ∧ (dueWith (dueLane 12 14 7) 0 0).message.outbound = [] ∧
    8 ≤ (dueWith (dueLane 12 14 7) 1 8).message.inFlight.length ∧
    (after .frameEmission (dueWith (dueLane 12 14 7) 1 0)).port.transmit.isSome = true ∧
    ∀ e ∈ (queued 1).port.due, e.offered = false := by
  refine ⟨by decide, rfl, by decide, rfl, ?_⟩
  rintro _ ⟨⟩

/-- `dueWith` with an anchor on lane 12. -/
def anchoredDue (e : HopEntry) (f : Anchor → Anchor) : State := { anchored f with port.due := some e }

theorem test_witness_JoinedEmissionForwardsAndRestarts :
    (anchoredDue (dueLane 20 14 7) id).clock.start = .joined ∧ (anchoredDue (dueLane 20 14 7) id).port.transmit = none ∧
    (anchoredDue (dueLane 20 14 7) id).outputs.anchors[(0 : AnchorNo).val]? = some (Anchor.initial 12 0 0) ∧
    (anchoredDue (dueLane 20 14 7) id).outputs.anchors[(1 : AnchorNo).val]? = none ∧
    (∃ a ∈ (anchoredDue (dueLane 20 14 7) id).outputs.anchors, a.lane = 12) ∧
    (∀ a ∈ (anchoredDue (dueLane 20 14 7) id).outputs.anchors, a.lane ≠ 20) ∧
    (dueLane 20 14 7).lanes[(20 : LaneNo)] = .live 14 7 ∧ (dueLane 20 15 7).lanes[(20 : LaneNo)] = .live 15 7 ∧
    (dueLane 20 0 7).lanes[(20 : LaneNo)] = .live 0 7 ∧ (dueLane 20 14 7).lanes[(21 : LaneNo)] = .orphan ∧
    (anchored id).port.due = none := by
  refine ⟨rfl, rfl, rfl, rfl, ⟨_, List.mem_singleton_self _, rfl⟩, by simp [anchoredDue, anchored, Anchor.initial], ?_⟩
  refine ⟨?_, ?_, ?_, ?_, rfl⟩ <;> decide +kernel

theorem test_witness_PassingEmissionOnlyAges :
    passing.clock.start = .passing ∧ passing.port.transmit = none ∧ passing.port.due = none ∧
    { passing with port.due := some (dueLane 20 14 7) }.port.due = some (dueLane 20 14 7) ∧
    (dueLane 20 14 7).lanes[(20 : LaneNo)] = .live 14 7 ∧ (dueLane 20 15 7).lanes[(20 : LaneNo)] = .live 15 7 ∧
    (dueLane 20 14 7).lanes[(21 : LaneNo)] = .orphan := by
  refine ⟨rfl, rfl, rfl, rfl, ?_, ?_, ?_⟩ <;> decide +kernel

/-- A frame with a live lane at the end of the lane values, and a message. -/
def liveFrame : Frame :=
  { emitter := 15, regenerated := true, lanes := (dueLane 63 15 (-2147483648)).lanes, slot := some ownMessage }

theorem test_witness_EmittedFrameReadsBack :
    (∀ (j : LaneNo) (age : Fin 16) (value : Int), liveFrame.lanes[j] = .live age value →
      -2147483648 ≤ value ∧ value ≤ 2147483647) ∧ ∀ m ∈ liveFrame.slot, m.kind ≠ 0#8 := by
  refine ⟨?_, ?_⟩
  · intro j age value h
    simp only [liveFrame, dueLane, Fin.getElem_fin, Vector.getElem_set] at h
    split at h
    · cases h; decide
    · simp at h
  · rintro _ ⟨⟩; decide

theorem test_witness_BadPeriodsConcealAndFault :
    (anchored fun a => { a with badRun := 47 }).clock.start = .joined ∧
    (anchored fun a => { a with badRun := 47 }).port.transmit = none ∧
    (anchored fun a => { a with badRun := 47 }).outputs.anchors[(0 : AnchorNo).val]? =
      some { Anchor.initial 12 0 0 with badRun := 47 } ∧
    (∀ e ∈ (anchored fun a => { a with badRun := 47 }).port.due, e.lanes[(12 : LaneNo)] = .orphan) ∧
    { Anchor.initial 12 0 0 with badRun := 47 }.faulted = false ∧
    -2147483648 ≤ { Anchor.initial 12 0 0 with lastWritten := -2147483648 }.lastWritten ∧
    { Anchor.initial 12 0 0 with lastWritten := 2147483647 }.lastWritten ≤ 2147483647 := by
  refine ⟨rfl, rfl, rfl, ?_, rfl, by decide, by decide⟩
  rintro _ ⟨⟩

/-- Ordinary records: a run one short of its 48th of another age, a run already complete, and a bad record at either end of its run. -/
theorem test_witness_BadPeriodsConcealAndFault_records :
    ∀ a ∈ [Anchor.initial 12 0 0, { Anchor.initial 12 0 0 with candidateAge := some 3, candidateRun := 47 },
        { Anchor.initial 12 0 0 with candidateAge := some 2, candidateRun := 48, badRun := 48, faulted := true }],
      (a.candidateAge ≠ some 2 ∨ a.candidateRun ≠ 47) ∧
      (∃ b events, a.handOff (.good 7 2) = { anchor := b, events }) ∧ ∃ b events, a.handOff .bad = { anchor := b, events } := by
  simp only [List.forall_mem_cons, List.not_mem_nil, false_implies, implies_true, and_true]
  refine ⟨?_, ?_, ?_⟩ <;> exact ⟨by decide, ⟨_, _, rfl⟩, ⟨_, _, rfl⟩⟩

/-- The 48th record of age 2 comes to the anchor of lane 12, in an output state, with a settled and a pending age and a ramp. -/
def completing (state : OutputState) (settled pending : Option (Fin 16)) (target step length : Nat) : State :=
  anchoredDue (dueLane 12 2 1000) fun a =>
    { a with state, settledAge := settled, pendingAge := pending, candidateAge := some 2, candidateRun := 47
             ramp := { applied := 0, start := 0, target, length, step } }

/-- Every output state, and within each every case the statement tells apart. -/
theorem test_witness_RunCompletedActsByTheOutputState :
    ∀ s ∈ [completing .silent none none 0 0 0, completing .settling none none 0 0 0,
        completing .rising (some 2) none 9 5 96, completing .running (some 3) none 9 96 96,
        completing .running (some 3) none 0 95 96, completing .realignUp (some 3) none 0 96 96,
        completing .realignDown (some 3) (some 2) 0 5 96, completing .realignDown (some 2) (some 4) 0 5 96,
        completing .realignDown (some 3) (some 4) 0 5 96],
      s.clock.start = .joined ∧ s.port.transmit = none ∧
      ∃ a, s.outputs.anchors[(0 : AnchorNo).val]? = some a ∧ s.port.due = some (dueLane 12 2 1000) ∧
        (dueLane 12 2 1000).lanes[a.lane] = .live 2 1000 ∧ a.candidateAge = some 2 ∧ a.candidateRun = 47 := by
  have h : (dueLane 12 2 1000).lanes[(12 : LaneNo)] = .live 2 1000 := by decide +kernel
  simp only [List.forall_mem_cons, List.not_mem_nil, false_implies, implies_true, and_true]
  refine ⟨?_, ?_, ?_, ?_, ?_, ?_, ?_, ?_, ?_⟩ <;> exact ⟨rfl, rfl, _, rfl, rfl, h, rfl, rfl⟩

/-- The anchor of lane 12 in an output state, `step` steps into a ramp of 96. -/
def ramping (state : OutputState) (step : Nat) : State :=
  anchored fun a => { a with state, settledAge := some 2, pendingAge := if state = .realignDown then some 3 else none
                             ramp := { applied := 0, start := 0, target := 4194304, length := 96, step } }

/-- Ramps at rest, under way and at their last step, in the three states a completed ramp leaves. -/
theorem test_witness_OutputSampleIsDelayedScaledAndClamped :
    ∀ s ∈ [ramping .running 96, ramping .running 94, ramping .rising 95, ramping .realignUp 95, ramping .realignDown 95],
      s.clock.start = .joined ∧ s.clock.taken.output = false ∧ (s.outputs.anchors.map Anchor.slot).Nodup ∧
      ∃ a, s.outputs.anchors[(0 : AnchorNo).val]? = some a ∧ a.slot ≠ 1 ∧ a.ramp.step ≤ a.ramp.length := by
  simp only [List.forall_mem_cons, List.not_mem_nil, false_implies, implies_true, and_true]
  refine ⟨?_, ?_, ?_, ?_, ?_⟩ <;> exact ⟨rfl, rfl, List.nodup_singleton _, _, rfl, by decide, by decide⟩

/-- An OUTPUT SET with lane field `lane` that names both fields: the lowest level, muted. -/
def outputFields (lane : Byte) : OutputSetFields := { lane, mask := 3#8, level := 0x8000#16, mute := 1#8 }

theorem test_witness_OutputSetTakesLevelAndMute :
    (anchored id).Acts 0 ∧ (outputFields 64#8).lane.toNat = 64 ∧ (outputFields 254#8).lane ≠ 255#8 ∧
    (outputFields 63#8).lane.toNat < 64 ∧ (∀ a ∈ (anchored id).outputs.anchors, a.lane.val ≠ (outputFields 63#8).lane.toNat) ∧
    (outputFields 255#8).lane = 255#8 ∧ (∃ a ∈ (anchored id).outputs.anchors, a.lane.val = (outputFields 12#8).lane.toNat) ∧
    (anchored id).outputs.anchors[0]? = some (Anchor.initial 12 0 0) :=
  ⟨by decide, rfl, by decide, by decide, by simp [anchored, Anchor.initial, outputFields], rfl,
    ⟨_, List.mem_singleton_self _, rfl⟩, rfl⟩

theorem test_witness_HistoryAdvanceMovesEveryEntryDeeper :
    passing.clock.start = .passing ∧ node.clock.start = .joined ∧ node.clock.taken.advanced = false ∧
    (after .historyAdvance node).clock.taken.advanced = true ∧ node.port.transmit = none ∧ node.clock.taken.sampled = false := by
  decide +kernel

/-- A strip whose swap is pending, at a ramp that is `left` steps from 0. -/
def swapping (left : Nat) : State := nodeWith fun st =>
  { st with swapPending := true, incoming := some [⟨9, 32768⟩]
            ramp := { applied := 1000, start := 4194304, target := 0, length := 96, step := 96 - left } }

theorem test_witness_SampleProcessingStepsRampsAndSumsLanes :
    (List.replicate 32 (0x800000#24)).length = 32 ∧ node.clock.start = .joined ∧ node.clock.taken.sampled = false ∧
    (node.strip 4).swapPending = false ∧ ((swapping 1).strip 4).swapPending = true ∧
    ((swapping 1).strip 4).ramp.stepOnce.applied = 0 ∧ ((swapping 2).strip 4).ramp.stepOnce.applied ≠ 0 := by
  decide +kernel

theorem test_witness_RestartedRampReachesItsTargetAtTheLastStep :
    0 < 96 ∧ (0 : Nat) = Ramp.rest.target ∧ (42 : Nat) ≠ Ramp.rest.target ∧
    (Ramp.mk 42 0 42 96 96).target ≠ 0 ∧ 0 < (Ramp.mk 42 0 42 96 96).applied ∧ 95 < 96 := by decide

theorem test_witness_CoefficientIsTheNearestInteger :
    (-1000 : Int) ≤ -1000 ∧ (-999 : Int) ≤ -999 ∧ (120 : Int) ≤ 120 ∧ (-999 : Int) ≤ 120 := by decide

/-! ### Witnesses: strips, automation, census and groups -/

theorem node_targets : node.TargetsSound ∧ node.SoloSound ∧ node.CuesSound := by decide +kernel

/-- A STRIP SET for strip 4 with every field named. -/
def stripFields (group mode : Byte) : StripSetFields :=
  { strip := 4#8, mask := 0x7F#8, glide := 0#16, group, mode, trim := 0x7FFF#16, cut := 1#8, mutes := 0x8000#16, safe := 1#8 }

theorem test_witness_StripSetWritesTheNamedFields :
    node.Acts 5 ∧ (stripFields 32#8 3#8).strip.toNat = (4 : StripNo).val ∧ node.TargetsSound ∧
    (stripFields 32#8 3#8).mode.toNat < 4 ∧ (stripFields 32#8 3#8).mask.getLsbD 2 = true ∧
    (stripFields 32#8 3#8).mask.getLsbD 1 = true ∧ (stripFields 0#8 0#8).group.toNat = 0 ∧
    (31 : GroupNo).val + 1 = min 32 (stripFields 32#8 3#8).group.toNat ∧
    (31 : GroupNo).val + 1 = min 32 (stripFields 255#8 3#8).group.toNat ∧ (∀ g : GroupNo, node.leads g 4 = false) :=
  ⟨by decide, rfl, node_targets.1, by decide, rfl, rfl, rfl, rfl, rfl, by decide +kernel⟩

theorem test_witness_MuteGroupSwitchesOneGroup :
    node.Acts 5 ∧ 1 ≤ (1#8).toNat ∧ (16#8).toNat ≤ 16 ∧ (0#8).toNat = 0 ∧ 16 < (17#8).toNat := by decide

/-- A PLACE for strip 4 with one tap on lane 63. -/
def placeFields (part parts count : Byte) : PlaceFields :=
  { strip := 4#8, part, parts, count, tap0 := ⟨63#8, 0xFFFF#16⟩, tap1 := ⟨64#8, 0#16⟩, tap2 := ⟨0#8, 0#16⟩, tap3 := ⟨0#8, 0#16⟩ }

/-- Strip 4 with a staged tap on a lane, or none, and an applied coefficient. -/
def staging (staged : Option LaneNo) (applied : Nat) : State :=
  nodeWith fun st => { st with staged := staged.map fun lane => [⟨lane, 1⟩], ramp := { Ramp.rest with applied } }

theorem test_witness_PlaceStagesOrCommitsAPlacement :
    (staging none 0).Acts 5 ∧ (placeFields 1#8 1#8 1#8).strip.toNat = (4 : StripNo).val ∧
    (placeFields 1#8 1#8 1#8).count.toNat ≤ 4 ∧ ([(⟨63, 32768⟩ : Tap)].map Tap.lane).Nodup ∧
    (((carriedTaps (placeFields 1#8 2#8 1#8)).map fun x => (x.lane.toNat, min 32768 x.coef.toNat)) =
      [(⟨63, 32768⟩ : Tap)].map fun tap => (tap.lane.val, tap.coef)) ∧
    ((staging (some 9) 0).strip 4).staged = some [⟨9, 1⟩] ∧ ([(⟨9, 1⟩ : Tap), ⟨63, 32768⟩].map Tap.lane).Nodup ∧
    ((staging (some 9) 0).strip 4).swapPending = false ∧ ((staging (some 9) 0).strip 4).ramp.applied = 0 ∧
    ((staging (some 9) 7).strip 4).ramp.applied ≠ 0 ∧ ((swapping 1).strip 4).swapPending = true := by decide +kernel

/-- One PLACE for each way of being malformed. -/
theorem test_witness_PlaceStagesOrCommitsAPlacement_malformed :
    (placeFields 1#8 3#8 1#8).parts ≠ 1#8 ∧ (placeFields 1#8 3#8 1#8).parts ≠ 2#8 ∧
    (placeFields 3#8 2#8 1#8).part ≠ 1#8 ∧ (placeFields 3#8 2#8 1#8).part ≠ 2#8 ∧
    (placeFields 2#8 1#8 1#8).part = 2#8 ∧ 4 < (placeFields 1#8 1#8 5#8).count.toNat ∧
    (placeFields 1#8 2#8 0#8).count = 0#8 ∧ (∃ x ∈ carriedTaps (placeFields 1#8 1#8 2#8), 64 ≤ x.lane.toNat) ∧
    ¬((carriedTaps (placeFields 1#8 1#8 4#8)).map TapField.lane).Nodup ∧ ((staging none 0).strip 4).staged = none ∧
    ((staging (some 63) 0).strip 4).staged = some [⟨63, 1⟩] := by decide +kernel

/-- A CUE for strip 4. -/
def cueFields (position : Position) : CueFields := { strip := 4#8, position, level := 0x7FFF#16, ramp := 0#16 }

/-- `node` rolling at a position, with a cue list for strip 4. -/
def cued (q : Position) (l : List Cue) : State := { node.setCues 4 l with clock.rolling := true, clock.position := q }

theorem test_witness_CueFiresOrJoinsItsListInOrder :
    (cued 500#48 fullList).Acts 5 ∧ (cueFields 500#48).strip.toNat = (4 : StripNo).val ∧
    (cued 500#48 fullList).clock.rolling = true ∧ (cueFields 500#48).position ≤ (cued 500#48 fullList).clock.position ∧
    (cueFields 499#48).position ≤ (cued 500#48 fullList).clock.position ∧
    (cued 500#48 fullList).clock.position < (cueFields 501#48).position ∧ (cued 500#48 fullList).CuesSound ∧
    (∃ d ∈ (cued 500#48 fullList).cueList 4, d.position = (cueFields 16000#48).position) ∧
    ((cued 500#48 (fullList.take 15)).cueList 4).length < 16 ∧
    (∀ d ∈ (cued 500#48 fullList).cueList 4, d.position ≠ (cueFields 15999#48).position) ∧
    (cued 500#48 fullList).cueList 4 = fullList.take 15 ++ [{ position := 16000#48, level := -100, ramp := 480 }] ∧
    (fullList.take 15).length = 15 := by decide +kernel

/-- Strip 4 of `node` in a mode, touched or not, a member of group 2, whose lead is given; strip 9 a waiter or not. -/
def linked (mode : Mode) (touched : Bool) (lead : Option Key) (waiter : Bool) : State :=
  ((nodeWith fun st => { st with mode, touched, linkGroup := some 1 }).setStrip 9
    { Strip.reset 12000 with linkGroup := some 1, touched := waiter }).setGroup 1 { lead, silent := 0, mark := false }

/-- This node's key of strip 4. -/
def ownLead : Key := { member := 3, strip := 4 }

/-- A lead, and STRIP SETs that take strip 4 out of its group, into READ, or neither. -/
theorem test_witness_StripSetWritesTheNamedFields_lead :
    (linked .touch true (some ownLead) true).Acts 5 ∧ (linked .touch true (some ownLead) true).TargetsSound ∧
    ((linked .touch true (some ownLead) true).strip 4).linkGroup = some 1 ∧
    (linked .touch true (some ownLead) true).leads 1 4 = true ∧
    (∀ h : GroupNo, h ≠ 1 → (linked .touch true (some ownLead) true).leads h 4 = false) ∧
    (stripFields 0#8 1#8).mask.getLsbD 1 = true ∧ (stripFields 2#8 1#8).mode.toNat < 4 ∧
    (linked .touch true (some ownLead) true).isWaiter 1 9 = true ∧
    (∀ lower : StripNo, lower ≠ 4 → lower < 9 → (linked .touch true (some ownLead) true).isWaiter 1 lower = false) ∧
    (∀ k : StripNo, k ≠ 4 → (linked .touch true (some ownLead) false).isWaiter 1 k = false) ∧
    ((after (.stripSet 5 (stripFields 0#8 2#8)) (linked .touch true (some ownLead) true)).strip 4).linkGroup ≠ some 1 ∧
    ((after (.stripSet 5 (stripFields 2#8 1#8)) (linked .touch true (some ownLead) true)).strip 4).mode = .read ∧
    ((after (.stripSet 5 (stripFields 2#8 2#8)) (linked .touch true (some ownLead) true)).strip 4).mode ≠ .read := by
  refine ⟨?_, ?_, ?_, ?_, ?_, ?_, ?_, ?_, ?_, ?_, ?_, ?_, ?_⟩ <;> decide +kernel

theorem test_witness_TouchAndReleaseEdges :
    (linked .latch false none false).Acts 5 ∧ (4#8).toNat = (4 : StripNo).val ∧
    ((0#8 ≠ 0#8) ↔ ((linked .latch false none false).strip 4).touched = true) ∧
    ¬((1#8 ≠ 0#8) ↔ ((linked .latch false none false).strip 4).touched = true) ∧
    ¬((0#8 ≠ 0#8) ↔ ((linked .touch true (some ownLead) true).strip 4).touched = true) ∧
    ((linked .latch false none false).group 1).lead = none ∧ ((linked .latch false (some ⟨0, 0⟩) false).group 1).lead ≠ none ∧
    (linked .touch true (some ownLead) true).leads 1 4 = true ∧ (linked .touch true (some ownLead) true).isWaiter 1 9 = true ∧
    (∀ lower : StripNo, lower ≠ 4 → lower < 9 → (linked .touch true (some ownLead) true).isWaiter 1 lower = false) ∧
    (∀ k : StripNo, k ≠ 4 → (linked .touch true (some ownLead) false).isWaiter 1 k = false) ∧
    (∀ g : GroupNo, (linked .touch true none false).leads g 4 = false) ∧
    ((linked .read true none false).strip 4).mode = .read := by decide +kernel

theorem test_witness_FaderMovesTheLiveLevelAndItsGroup :
    (linked .touch true (some ownLead) true).Acts 5 ∧ (4#8).toNat = (4 : StripNo).val ∧
    max (-1440) (min 120 (0x8000#16).toInt) = ((linked .touch true (some ownLead) true).strip 4).live ∧
    max (-1440) (min 120 (0x7FFF#16).toInt) ≠ ((linked .touch true (some ownLead) true).strip 4).live ∧
    ((linked .touch true (some ownLead) true).strip 4).linkGroup = some 1 ∧
    (linked .touch true (some ownLead) true).leads 1 4 = true ∧ (linked .touch true none true).leads 1 4 = false := by
  decide +kernel

/-- `node` with strip 4 soloed, as a SOLO leaves it. -/
def soloing : State := after (.solo 5 4#8 1#8) node

theorem test_witness_SoloChangesTheCountAndSoloActive :
    node.Acts 5 ∧ soloing.Acts 5 ∧ (4#8).toNat = (4 : StripNo).val ∧ node.TargetsSound ∧ node.SoloSound ∧
    soloing.TargetsSound ∧ soloing.SoloSound ∧
    ((0#8 ≠ 0#8) ↔ (node.strip 4).soloed = true) ∧ ¬((1#8 ≠ 0#8) ↔ (node.strip 4).soloed = true) ∧
    ¬((0#8 ≠ 0#8) ↔ (soloing.strip 4).soloed = true) := by decide +kernel

theorem vacant_sound (own : Member) : CensusTable.vacant.Sound own := by
  refine ⟨?_, ?_⟩
  · have : CensusTable.vacant.links = [] := by
      simp [CensusTable.links, CensusTable.vacant, homeLinks]
    rw [this]
    exact List.Perm.refl _
  · intro i
    simp [CensusTable.vacant, homeKeys]

theorem table_reset (s : State) (h : s.census = Census.reset) (i : Fin 3) : s.table i = CensusTable.vacant := by
  unfold State.table
  rw [h]
  simp [Census.reset]

/-- Any state whose Census stands as reset leaves it. -/
theorem census_sound (s : State) (h : s.census = Census.reset) : s.CensusSound := by
  refine ⟨fun i => by rw [table_reset s h]; exact vacant_sound _, ?_, ?_, ?_⟩
  · rw [h]; decide
  · intro i _
    rw [table_reset s h]
    simp [CensusTable.vacant]
  · rw [h]; decide

theorem test_witness_SoloAnnouncementsChangeTheCurrentAndNextTables :
    node.Acts 0 ∧ (31#8).toNat = (31 : StripNo).val ∧ node.TargetsSound ∧ node.SoloSound ∧ node.CensusSound ∧
    (1 : Fin 3) ≠ node.census.roles.empty :=
  ⟨by decide, rfl, node_targets.1, node_targets.2.1, census_sound _ rfl, by decide⟩

/-- `node` as the aging timer expires, clearing in progress or not, group 2 led by a key and silent for a time. -/
def agingNow (clearing : Option (Fin 128)) (lead : Option Key) (silent : Nat) : State :=
  { (linked .manual true lead true).setGroup 1 { lead, silent, mark := false } with
    census.agingCount := 96000, census.clearing := clearing }

theorem test_witness_AgingEventRotatesLapsesAndMarks :
    { node with census.agingCount := 95999 }.census.agingCount < node.clock.profile.aging ∧
    (agingNow none (some ⟨0, 0⟩) 1).TargetsSound ∧ (agingNow none (some ⟨0, 0⟩) 1).SoloSound ∧
    (agingNow none (some ⟨0, 0⟩) 1).Acts 5 ∧
    (agingNow none (some ⟨0, 0⟩) 1).clock.profile.aging ≤ (agingNow none (some ⟨0, 0⟩) 1).census.agingCount ∧
    (agingNow none (some ⟨0, 0⟩) 1).census.clearing = none ∧ (agingNow (some 127) none 0).census.clearing ≠ none ∧
    ((agingNow none (some ⟨0, 0⟩) 1).group 1).lead = some ⟨0, 0⟩ ∧ ((agingNow none (some ⟨0, 0⟩) 1).group 1).silent = 1 ∧
    ((agingNow none (some ⟨0, 0⟩) 0).group 1).silent = 0 ∧ ((agingNow none (some ownLead) 0).group 1).lead = some ownLead ∧
    ((agingNow none none 0).group 1).lead = none ∧ (agingNow none (some ⟨0, 0⟩) 1).isWaiter 1 4 = true ∧
    (∀ lower : StripNo, lower < 4 → (agingNow none (some ⟨0, 0⟩) 1).isWaiter 1 lower = false) := by decide +kernel

/-- `node` with clearing at a home entry. -/
def clearingAt (i : Fin 128) (held : Bool) : State := { node with census.clearing := some i, census.held := held }

theorem test_witness_ClearingTakesOneHomeEntryEachPeriod :
    (clearingAt 0 false).clock.start = .joined ∧ (clearingAt 0 false).clock.taken.cleared = false ∧
    (clearingAt 0 false).census.clearing = some 0 ∧ (clearingAt 126 true).census.clearing = some 126 ∧
    (clearingAt 127 true).census.clearing = some 127 ∧ (clearingAt 127 true).census.held = true ∧
    (clearingAt 127 false).census.held = false ∧ (clearingAt 127 true).TargetsSound ∧ (clearingAt 127 true).SoloSound ∧
    (clearingAt 126 true).TargetsSound ∧ (clearingAt 126 true).SoloSound := by decide +kernel

/-- The key (0, 31) ranks just below (1, 0). -/
theorem test_witness_GroupAnnouncementsFollowTheLowestKey :
    (linked .manual true none true).Acts 0 ∧ (2#8).toNat = (1 : GroupNo).val + 1 ∧ (32#8).toNat = (31 : GroupNo).val + 1 ∧
    (1#8).toNat = (0 : GroupNo).val + 1 ∧ (31#8).toNat = (31 : StripNo).val ∧
    ((linked .manual true none true).group 1).lead = none ∧
    ((linked .manual true (some ⟨1, 0⟩) true).group 1).lead = some ⟨1, 0⟩ ∧ (⟨1, 0⟩ : Key) ≠ ⟨0, 31⟩ ∧
    32 * (⟨0, 31⟩ : Key).member.val + (⟨0, 31⟩ : Key).strip.val < 32 * (⟨1, 0⟩ : Key).member.val + (⟨1, 0⟩ : Key).strip.val ∧
    ((linked .manual true (some ⟨0, 31⟩) true).group 1).lead = some ⟨0, 31⟩ ∧
    (linked .manual true (some ⟨0, 31⟩) true).isWaiter 1 4 = true ∧
    (∀ lower : StripNo, lower < 4 → (linked .manual true (some ⟨0, 31⟩) true).isWaiter 1 lower = false) ∧
    (∀ k : StripNo, (linked .manual false (some ⟨0, 31⟩) false).isWaiter 1 k = false) := by decide +kernel

/-! ### Witnesses: captures, the reference input and reports -/

/-- A CAPTURE START of unit 1 on strip 4, punch-in 100, to record member 0. -/
def startFields (punchOut : Position) : CaptureStartFields :=
  { unit := 1#8, strip := 4#8, punchIn := 100#48, punchOut, threshold := 0#8, noticeMask := 0xFF#8, recordMember := 15#8 }

/-- `node` at a transport position. -/
def rollingAt (rolling : Bool) (q : Position) : State := { node with clock.rolling := rolling, clock.position := q }

theorem test_witness_CaptureStartArmsWritesOrEnds :
    node.Acts 5 ∧ 4 ≤ { startFields 101#48 with unit := 4#8 }.unit.toNat ∧
    32 ≤ { startFields 101#48 with strip := 32#8 }.strip.toNat ∧
    16 ≤ { startFields 101#48 with recordMember := 16#8 }.recordMember.toNat ∧
    (startFields 101#48).unit.toNat = (1 : UnitNo).val ∧ (startFields 101#48).strip.toNat = (4 : StripNo).val ∧
    (startFields 101#48).recordMember.toNat = (15 : Member).val ∧
    ((unitWith fun c => { c with state := .ended }).captureUnit 1).state ≠ .idle ∧ (node.captureUnit 1).state = .idle ∧
    (node.captureUnit 1).buffer = [] ∧ (node.strip 4).binding = none ∧
    ((nodeWith fun st => { st with binding := some 2 }).strip 4).binding ≠ none ∧
    (startFields 100#48).punchOut ≤ (startFields 100#48).punchIn ∧
    (startFields 101#48).punchIn < (startFields 101#48).punchOut ∧ (rollingAt false 100#48).clock.rolling = false ∧
    (rollingAt true 99#48).clock.position < (startFields 101#48).punchIn ∧ (rollingAt true 100#48).clock.rolling = true ∧
    (startFields 101#48).punchIn ≤ (rollingAt true 100#48).clock.position ∧
    (rollingAt true 100#48).clock.position < (startFields 101#48).punchOut ∧
    (startFields 101#48).punchOut ≤ (rollingAt true 101#48).clock.position := by decide +kernel

/-- A record of level 0 at a position. -/
def record (q : Position) : Record := { position := q, level := 0, flags := 0#8, formed := 0 }

/-- Unit 1 of `node` in a state, bound to strip 4 where that state is one of the bound ones, with records buffered. -/
def capturing (state : UnitState) (buffer : List Record) : State :=
  (unitWith fun c => { c with
      state, buffer, bound := if state.isBound then some 4 else none
      settings := { CaptureSettings.zero with strip := 4, punchOut := 1000#48 }
      endRecord := if state = .ended then some c.ending else none }).setStrip 4
    { Strip.reset 12000 with binding := if state.isBound then some 1 else none }

theorem capturing_sound (state : UnitState) (buffer : List Record) (hlen : buffer.length ≤ 16)
    (hempty : state = .idle ∨ state = .armed ∨ state = .ended → buffer = []) : (capturing state buffer).CapturesSound := by
  have hunit : ∀ u : UnitNo, (capturing state buffer).captureUnit u =
      if u = 1 then (capturing state buffer).captureUnit 1 else CaptureUnit.reset := by
    intro u
    by_cases h : u = 1
    · rw [if_pos h, h]
    · simp [capturing, unitWith, State.captureUnit, State.setUnit, State.setStrip, node, State.reset, unitsReset,
        show ¬(1 : Nat) = u.val from fun e => h (Fin.ext e.symm)]
      simp [h]
  have hstrip : ∀ n : StripNo, ((capturing state buffer).strip n).binding =
      if n = 4 then (if state.isBound then some 1 else none) else none := by
    intro n
    by_cases h : n = 4
    · subst h; simp [capturing, State.strip, State.setStrip]
    · simp [capturing, unitWith, State.strip, State.setUnit, State.setStrip, node, State.reset, StripEngine.reset, Strip.reset,
        show ¬(4 : Nat) = n.val from fun e => h (Fin.ext e.symm)]
      simp [h]
  have hone : (capturing state buffer).captureUnit 1 = { CaptureUnit.reset with
      state, buffer, bound := if state.isBound then some 4 else none
      settings := { CaptureSettings.zero with strip := 4, punchOut := 1000#48 }
      endRecord := if state = .ended then some CaptureUnit.reset.ending else none } := by
    simp [capturing, unitWith, State.captureUnit, State.setUnit, State.setStrip, node, State.reset, unitsReset]
  refine ⟨?_, ?_⟩
  · intro u
    rw [hunit]
    split
    · rw [hone]
      refine ⟨?_, hlen, Nat.zero_le _, hempty, ?_⟩
      · cases state <;> rfl
      · rintro rfl; rfl
    · decide
  · intro u n
    rw [hunit, hstrip]
    by_cases hu : u = 1
    · rw [if_pos hu, hone, hu]
      cases hs : state.isBound <;> by_cases hn : n = 4 <;> simp [hn, eq_comm]
    · rw [if_neg hu]
      by_cases hn : n = 4 <;> cases hs : state.isBound <;> simp [CaptureUnit.reset, hn, Ne.symm hu]

theorem test_witness_CaptureControlsFollowTheUnitState :
    (capturing .idle []).CapturesSound ∧ (capturing .armed []).CapturesSound ∧ (capturing .ended []).CapturesSound ∧
    (capturing .writing ((List.range 15).map fun i => record (BitVec.ofNat 48 i))).CapturesSound ∧
    (capturing .suspended ((List.range 16).map fun i => record (BitVec.ofNat 48 i))).CapturesSound ∧
    (capturing .draining [record 0#48]).CapturesSound := by
  refine ⟨?_, ?_, ?_, ?_, ?_, ?_⟩ <;> apply capturing_sound <;> simp

theorem test_witness_CaptureControlsFollowTheUnitState_states :
    (capturing .idle []).Acts 5 ∧ (1#8).toNat = (1 : UnitNo).val ∧
    (∀ state ∈ [UnitState.idle, .armed, .writing, .suspended, .draining, .ended],
      ((capturing state []).captureUnit 1).state = state) ∧
    ((capturing .writing []).captureUnit 1).bound = some 4 ∧ ((capturing .suspended []).captureUnit 1).bound = some 4 := by
  decide +kernel

theorem test_witness_PackingTurnSendsRecordsAndEnds :
    node.clock.start = .joined ∧ node.clock.taken.turns[(1 : UnitNo)] = false ∧
    31 ≤ (queued 31).message.outbound.length ∧ (queued 30).message.outbound.length ≤ 30 ∧
    ((capturing .writing []).captureUnit 1).buffer = [] ∧
    ((capturing .writing [record 5#48]).captureUnit 1).buffer = record 5#48 :: [] ++ [] ∧
    ({ capturing .writing [record 5#48] with clock.period := 479 }).clock.period < (record 5#48).formed + 480 ∧
    (record 5#48).formed + 480 ≤ ({ capturing .writing [record 5#48] with clock.period := 480 }).clock.period ∧
    ((capturing .draining [record 5#48, record 65540#48, record 65541#48]).captureUnit 1).buffer =
      record 5#48 :: [record 65540#48] ++ [record 65541#48] ∧
    (∀ x ∈ [record 65540#48], (x.position - (record 5#48).position).toNat ≤ 65535) ∧
    (∀ x ∈ [record 65541#48].head?, 65535 < (x.position - (record 5#48).position).toNat) ∧
    [record 6#48, record 7#48, record 8#48].length = 3 ∧
    ((capturing .draining []).captureUnit 1).state = .draining ∧ ((capturing .draining []).captureUnit 1).buffer = [] ∧
    ((capturing .ended []).captureUnit 1).state = .ended ∧
    ((capturing .ended []).captureUnit 1).endRecord = some CaptureUnit.reset.ending ∧
    (capturing .ended []).reports.inhibited = false := by
  refine ⟨?_, ?_, ?_, ?_, ?_, ?_, ?_, ?_, ?_, ?_, ?_, ?_, ?_, ?_, ?_, ?_, ?_⟩ <;> decide +kernel

/-- Transport readings: parked and parked, parked from rolling, rolling on, and a jump. -/
theorem test_witness_ReferenceEventMovesTheTransport :
    node.clock.start = .joined ∧ node.clock.taken.referenced = false ∧
    (false && true) = false ∧ (true && true) = true ∧ (true && false) = false ∧
    node.clock.rolling = false ∧ (rollingAt true 99#48).clock.rolling = true ∧
    (cued 99#48 fullList).cueList 4 = fullList.take 1 ++ fullList.drop 1 ∧
    (∀ d ∈ fullList.take 1, d.position ≤ 1000#48) ∧ (∀ d ∈ (fullList.drop 1).head?, 1000#48 < d.position) ∧
    fullList.take 1 = [] ++ [{ position := 1000#48, level := -100, ramp := 480 }] ∧
    ((capturing .writing []).captureUnit 1).state = .writing ∧ 4799 ≤ { CaptureUnit.reset with keepalive := 4799 }.keepalive ∧
    (999#48) < ((capturing .writing []).captureUnit 1).settings.punchOut ∧
    ((capturing .writing []).captureUnit 1).settings.punchOut ≤ (1000#48) ∧
    ((capturing .writing []).captureUnit 1).buffer.length < 16 := by
  refine ⟨?_, ?_, ?_, ?_, ?_, ?_, ?_, ?_, ?_, ?_, ?_, ?_, ?_, ?_, ?_, ?_⟩ <;> decide +kernel

/-- The keepalive's hypotheses together, at position 999. -/
theorem test_witness_ReferenceEventMovesTheTransport_keepalive :
    ∃ (s : State) (c : CaptureUnit), s.clock.start = .joined ∧ s.clock.taken.referenced = false ∧ c = s.captureUnit 1 ∧
      c.state = .writing ∧ 4799 ≤ c.keepalive ∧ (999#48) = s.clock.position + 1#48 ∧ (999#48) < c.settings.punchOut ∧
      c.buffer.length < 16 :=
  ⟨{ (capturing .writing []).setUnit 1 { (capturing .writing []).captureUnit 1 with keepalive := 4799 } with
      clock.rolling := true, clock.position := 998#48, clock.referenced := true }, _, by decide +kernel, by decide +kernel, rfl,
    by decide +kernel, by decide +kernel, by decide +kernel, by decide +kernel, by decide +kernel⟩

/-- Each of R151's conditions, just met and just not met, and a full and a not quite full buffer. -/
theorem test_witness_ReferenceEventMovesTheTransport_records :
    ((capturing .writing []).captureUnit 1).bound = some 4 ∧ ((capturing .armed []).captureUnit 1).bound = some 4 ∧
    ((capturing .suspended []).captureUnit 1).bound = some 4 ∧ ((capturing .writing []).captureUnit 1).lastLevel = none ∧
    ((capturing .armed []).captureUnit 1).settings.punchIn ≤ (0#48) ∧
    { CaptureUnit.reset with marks := flagTouch }.marks ≠ 0#8 ∧ CaptureUnit.reset.marks = 0#8 ∧
    { CaptureUnit.reset with keepalive := 4798 }.keepalive < 4799 ∧
    { CaptureSettings.zero with threshold := 10 }.threshold ≤ ((-190 : Int) - -200).natAbs ∧
    ((-191 : Int) - -200).natAbs < { CaptureSettings.zero with threshold := 10 }.threshold ∧
    ((List.range 15).map fun i => record (BitVec.ofNat 48 i)).length < 16 ∧
    ¬((List.range 16).map fun i => record (BitVec.ofNat 48 i)).length < 16 := by
  refine ⟨?_, ?_, ?_, ?_, ?_, ?_, ?_, ?_, ?_, ?_, ?_, ?_⟩ <;> decide +kernel

theorem test_witness_PortFramingAndReportControlSwitch :
    node.clock.start = .joined ∧ passing.clock.start = .passing ∧ node.clock.ports[(3 : PortNo)] = false ∧
    (after (.inputFramingGained 3) node).clock.ports[(3 : PortNo)] = true ∧ node.Acts 15 := by decide +kernel

theorem test_witness_MeterEventReportsAndClearsPeaks :
    { node with reports.meterCount := 4800 }.clock.profile.meter ≤ { node with reports.meterCount := 4800 }.reports.meterCount ∧
    passing.clock.start = .passing ∧ node.clock.start = .joined ∧ node.reports.metersOn = true ∧
    (queued 28).message.outbound.length = 28 ∧ (anchored id).outputs.anchors[0]? = some (Anchor.initial 12 0 0) := by
  refine ⟨by decide, rfl, rfl, rfl, rfl, rfl⟩

/-- `queued n` with an event in the node's own vector, where the scan stands, and strip 4 or group 2 marked. -/
def scanning (n : Nat) (strip group : Bool) (lead : Key) : State :=
  { ((queued n).latchNode .lost).setGroup 1 { lead := some lead, silent := 0, mark := group } with
    reports.scan := 64, census.marks := (Vector.replicate 32 false).set 4 strip }

theorem test_witness_ScannerAndWalkNeedFourFreeEntries :
    (scanning 28 true true ownLead).clock.start = .joined ∧ (scanning 28 true true ownLead).reports.inhibited = false ∧
    (scanning 28 true true ownLead).clock.taken.visited = false ∧ (scanning 28 true true ownLead).clock.taken.walked = false ∧
    (64 : SourceNo) = (scanning 28 true true ownLead).reports.scan ∧ node.reports.vectors[node.reports.scan].events = 0#24 ∧
    29 ≤ (queued 29).message.outbound.length ∧ (scanning 28 true true ownLead).message.outbound.length ≤ 28 := by decide +kernel

theorem test_witness_ScannerAndWalkNeedFourFreeEntries_marks :
    (scanning 28 true true ownLead).reports.vectors[(64 : SourceNo)].events ≠ 0#24 ∧
    (scanning 28 true true ownLead).census.marks[(4 : StripNo)] = true ∧
    (∀ lower : StripNo, lower < 4 → (scanning 28 true true ownLead).census.marks[lower] = false) ∧
    (∀ n : StripNo, (scanning 28 false true ownLead).census.marks[n] = false) ∧
    (∀ g : GroupNo, ((scanning 28 false false ownLead).group g).mark = false) ∧
    ((scanning 28 false true ownLead).group 1).mark = true ∧
    (∀ lower : GroupNo, lower < 1 → ((scanning 28 false true ownLead).group lower).mark = false) ∧
    ((scanning 28 false true ownLead).group 1).lead = some { member := (scanning 28 false true ownLead).clock.member, strip := 4 } ∧
    (⟨0, 0⟩ : Key).member ≠ (scanning 28 false true ⟨0, 0⟩).clock.member ∧
    ((scanning 28 false true ⟨0, 0⟩).group 1).lead = some ⟨0, 0⟩ := by decide +kernel

/-- Queued messages of each kind that a like one meets, behind one of no such kind; and a queue of 31 and of 32. -/
theorem test_witness_OfferedMessagesReplaceJoinOrDrop :
    (⟨broadcast, .soloRefresh 31⟩ : OutMsg).isSolo 31 = true ∧ (∀ y ∈ filler 1, y.isSolo 31 = false) ∧
    (⟨broadcast, .claim 31 0⟩ : OutMsg).isLead 31 0 = true ∧ (∀ y ∈ filler 1, y.isLead 31 0 = false) ∧
    (⟨broadcast, .delta 0 31 1560⟩ : OutMsg).body = .delta 0 31 1560 ∧ (∀ y ∈ filler 1, y.isDelta 0 31 = false) ∧
    (∀ y ∈ filler 32, ∀ (g : GroupNo) (n : StripNo),
      y.isSolo n = false ∧ y.isLead g n = false ∧ y.isDelta g n = false) ∧
    (queued 31).message.outbound.length < 32 ∧ 32 ≤ (queued 32).message.outbound.length := by
  refine ⟨by decide, by decide, by decide, by decide, rfl, by decide, ?_, by decide, by decide⟩
  intro y hy g n
  rw [filler, List.mem_replicate] at hy
  rw [hy.2]
  exact ⟨rfl, rfl, rfl⟩

/-- The last object of each item, and a queue that an answer of three parts just fills, and just does not. -/
theorem test_witness_QueriesAreAnsweredWholeOrRefusedBusy :
    node.Acts 5 ∧ (31#8).toNat = (31 : StripNo).val ∧ (32#8).toNat = (31 : GroupNo).val + 1 ∧ (3#8).toNat = (3 : UnitNo).val ∧
    (63#8).toNat = (63 : LaneNo).val ∧
    (queued 29).message.outbound.length + ((queued 29).stripShares 31).length ≤ 32 ∧
    32 < (queued 30).message.outbound.length + ((queued 30).stripShares 31).length := by decide +kernel

/-- An empty and a longer cue list, an anchored lane and another, and a part without keys, all of whose key places are unused. -/
theorem test_witness_QueriesAreAnsweredWholeOrRefusedBusy_answers :
    node.cueList 4 = [] ∧ (cued 0#48 fullList).cueList 4 ≠ [] ∧ (anchored id).outputs.anchors = [] ++ Anchor.initial 12 0 0 :: [] ∧
    (∀ a ∈ (anchored id).outputs.anchors, a.lane ≠ 63) ∧ ([] : List Key).length ≤ Config.keyPlace 23 ∧
    ((anchored id).anchorShares 12).length = 2 := by
  refine ⟨by decide +kernel, by decide +kernel, rfl, by decide +kernel, Nat.zero_le _, by decide +kernel⟩

/-- R132: the bytes of a key place that holds no key are 0. -/
theorem test_unused_key_places :
    (Body.reply 3#8 0#8 1 1 (.censusKeys [])).bytes = [3#8, 0#8, 1#8, 1#8] ++ List.replicate 24 0#8 := rfl

/-- Fields at the ends of the ranges that name no object, and a message that is not acted on. -/
theorem test_witness_CommandsNameOneObjectAllStripsOrNone :
    ¬passing.Acts 5 ∧ ¬node.Acts 3 ∧ commandOf 5 0x14#8 [4#8, 1#8] = some (.touch 5 4#8 1#8) ∧ node.Acts 5 ∧
    32 ≤ (32#8).toNat ∧ 32 ≤ (254#8).toNat ∧ (254#8) ≠ 255#8 ∧ (stripFields 0#8 4#8).mask.getLsbD 2 = true ∧
    4 ≤ (stripFields 0#8 4#8).mode.toNat ∧ 4 ≤ (4#8).toNat ∧ 33 ≤ (33#8).toNat ∧ 64 ≤ (64#8).toNat ∧ 64 ≤ (255#8).toNat ∧
    { stripFields 0#8 3#8 with strip := 255#8 }.strip = 255#8 ∧ (stripFields 0#8 3#8).mode.toNat < 4 := by decide +kernel

/-! ### Witnesses: the invariants, on a state whose step does something -/

/-- A state with one command waiting. -/
def sending (c : Instr) (s : State) : State := { s with pending := [c] }

/-- `node` with a SOLO for strip 4 waiting. -/
def waiting : State := sending (.solo 5 4#8 1#8) node

theorem test_step_runs_the_waiting_command : step waiting = .next (after (.solo 5 4#8 1#8) node) ∧
    ((after (.solo 5 4#8 1#8) node).strip 4).soloed = true := ⟨rfl, by decide +kernel⟩

theorem test_witness_EveryStepKeepsStripsCuesAndSumsInRange :
    waiting.StripsSound ∧ waiting.CuesSound ∧ waiting.adder.Sound ∧ ∃ t, step waiting = .next t := by
  have hs : ∀ n : StripNo, waiting.strip n = Strip.reset 12000 := by
    intro n; simp [waiting, sending, node, State.strip, State.reset, StripEngine.reset, Profile.default]
  have hc : ∀ n : StripNo, waiting.cueList n = [] := by
    intro n; simp [waiting, sending, node, State.cueList, State.reset, noCues]
  refine ⟨⟨fun n => ?_, fun n => by simp [hc], ⟨(by decide : 48 ≤ 12000), (by decide : 12000 ≤ 48000)⟩⟩, fun n => by simp [hc], ⟨?_, ?_⟩, _, rfl⟩
  · rw [hs]; simp [Strip.Sound, Strip.reset, placementSound, Ramp.rest]
  · intro d j; simp [waiting, sending, node, State.reset, LaneAdder.zero, zeroRow, contributionInRange]
  · intro j; simp [waiting, sending, node, State.reset, LaneAdder.zero, zeroRow, contributionInRange]

theorem test_witness_EveryStepKeepsTargetsAndSoloActive :
    waiting.TargetsSound ∧ waiting.SoloSound ∧ ∃ t, step waiting = .next t := ⟨by decide +kernel, by decide +kernel, _, rfl⟩

theorem test_witness_EveryStepKeepsTheQueuesSound :
    (sending .frameEmission soloing).QueuesSound ∧ ∃ t, step (sending .frameEmission soloing) = .next t :=
  ⟨by decide +kernel, _, rfl⟩

theorem test_witness_EveryStepKeepsTheCensusTablesSound :
    (sending (.soloOn 5 9#8) node).CensusSound ∧ ∃ t, step (sending (.soloOn 5 9#8) node) = .next t :=
  ⟨census_sound _ rfl, _, rfl⟩

theorem linked_leads_sound : (linked .touch true (some ownLead) true).LeadsSound := by
  intro g
  by_cases h : g = 1
  · subst h
    have hlead : (linked .touch true (some ownLead) true).group 1 = { lead := some ownLead, silent := 0, mark := false } := by
      decide +kernel
    refine ⟨?_, ?_⟩
    · intro k hk _
      rw [hlead] at hk
      obtain rfl : ownLead = k := Option.some.inj hk
      decide +kernel
    · rw [State.silentSound, hlead]; simp
  · have hlead : (linked .touch true (some ownLead) true).group g = GroupEntry.reset := by
      simp [linked, State.group, State.setGroup, State.setStrip, nodeWith, node, State.reset, groupsReset,
        show ¬(1 : Nat) = g.val from fun e => h (Fin.ext e.symm)]
    refine ⟨fun k hk => ?_, ?_⟩
    · rw [hlead] at hk; cases hk
    · rw [State.silentSound, hlead]; simp [GroupEntry.reset]

theorem test_witness_EveryStepKeepsLocalLeadsTouched :
    (sending (.touch 5 4#8 0#8) (linked .touch true (some ownLead) true)).LeadsSound ∧
    ∃ t, step (sending (.touch 5 4#8 0#8) (linked .touch true (some ownLead) true)) = .next t :=
  ⟨linked_leads_sound, _, rfl⟩

theorem test_witness_EveryStepKeepsCapturesBoundOneToOne :
    (sending (.captureStop 5 1#8) (capturing .writing [record 5#48])).CapturesSound ∧
    ∃ t, step (sending (.captureStop 5 1#8) (capturing .writing [record 5#48])) = .next t :=
  ⟨capturing_sound .writing [record 5#48] (by simp) (by simp), _, rfl⟩

theorem anchored_sound : (anchored fun a => { a with state := .settling }).AnchorsSound := by
  refine ⟨by simp [anchored], by simp [anchored], by simp [anchored], ?_, by simp [anchored, node], ?_⟩
  · simp [anchored, Anchor.initial, Anchor.Sound, OutputState.isSettled, Ramp.rest, Ramp.Sound, Anchor.target,
      Ramp.inProgress]
  · intro slot; simp [anchored, node, State.reset, silentSlots]

theorem test_witness_EveryStepKeepsTheAnchorsSound :
    (sending .frameEmission (anchored fun a => { a with state := .settling })).AnchorsSound ∧
    ∃ t, step (sending .frameEmission (anchored fun a => { a with state := .settling })) = .next t :=
  ⟨anchored_sound, _, rfl⟩

end Sys2Proof.Tests
end

section
/-! SUPPORT. The frames of the shared operations, and the part of the state that the range invariants read. -/

namespace Sys2Proof.Machine

open Sys2Proof

/-! ### The blocks an offered message leaves alone (R92 to R97) -/

section
variable (m : OutMsg) (s : State)

@[simp] theorem State.offer_clock : (s.offer m).clock = s.clock := by rw [State.offer_eq]
@[simp] theorem State.offer_port : (s.offer m).port = s.port := by rw [State.offer_eq]
@[simp] theorem State.offer_adder : (s.offer m).adder = s.adder := by rw [State.offer_eq]
@[simp] theorem State.offer_engine : (s.offer m).engine = s.engine := by rw [State.offer_eq]
@[simp] theorem State.offer_cues : (s.offer m).cues = s.cues := by rw [State.offer_eq]
@[simp] theorem State.offer_census : (s.offer m).census = s.census := by rw [State.offer_eq]
@[simp] theorem State.offer_groups : (s.offer m).groups = s.groups := by rw [State.offer_eq]
@[simp] theorem State.offer_units : (s.offer m).units = s.units := by rw [State.offer_eq]
@[simp] theorem State.offer_outputs : (s.offer m).outputs = s.outputs := by rw [State.offer_eq]
@[simp] theorem State.offer_pending : (s.offer m).pending = s.pending := by rw [State.offer_eq]
@[simp] theorem State.strip_offer (n : StripNo) : (s.offer m).strip n = s.strip n := by simp [State.strip]

end

/-! ### The part of the state that the range invariants read -/

/-- The strip records, the cue lists, the Lane Adder and the profile: what the ranges of R14, R24, R46, R60 and R106 are of. -/
def State.ranged (s : State) : Vector Strip 32 × Vector (List Cue) 32 × LaneAdder × Profile :=
  (s.engine.strips, s.cues, s.adder, s.clock.profile)

section
variable (s : State)

@[simp] theorem State.ranged_latch (src : SourceNo) (e : NoticeEvent) : (s.latch src e).ranged = s.ranged := rfl
@[simp] theorem State.ranged_latchNode (e : NoticeEvent) : (s.latchNode e).ranged = s.ranged := rfl
@[simp] theorem State.ranged_latchStrips (f : StripNo → List NoticeEvent) : (s.latchStrips f).ranged = s.ranged := by
  simp [State.ranged]
@[simp] theorem State.ranged_count (f : Counters → Counters) : (s.count f).ranged = s.ranged := rfl
@[simp] theorem State.ranged_setGroup (g : GroupNo) (e : GroupEntry) : (s.setGroup g e).ranged = s.ranged := rfl
@[simp] theorem State.ranged_setUnit (u : UnitNo) (c : CaptureUnit) : (s.setUnit u c).ranged = s.ranged := rfl
@[simp] theorem State.ranged_setPort (p : PortNo) (b : Bool) : (s.setPort p b).ranged = s.ranged := rfl
@[simp] theorem State.ranged_mapTable (i : Fin 3) (f : CensusTable → CensusTable) :
    (s.mapTable i f).ranged = s.ranged := rfl
@[simp] theorem State.ranged_offer (m : OutMsg) : (s.offer m).ranged = s.ranged := by simp [State.ranged]
@[simp] theorem State.ranged_announce (b : Body) : (s.announce b).ranged = s.ranged := State.ranged_offer ..
@[simp] theorem State.ranged_refuse (source : Member) (kind object : Byte) (reason : Reason) :
    (s.refuse source kind object reason).ranged = s.ranged := State.ranged_offer ..

/-- A fold of operations that leave the part alone leaves it alone. -/
theorem State.ranged_foldl {α : Type} {f : State → α → State} (hf : ∀ t a, (f t a).ranged = t.ranged) (l : List α)
    (s : State) : (l.foldl f s).ranged = s.ranged := by
  induction l generalizing s with
  | nil => rfl
  | cons a l ih => rw [List.foldl_cons, ih, hf]

/-! ### Groups (chapter 8) -/

@[simp] theorem State.ranged_takeLead (g : GroupNo) (n : StripNo) : (s.takeLead g n).ranged = s.ranged := by
  simp [State.takeLead]

@[simp] theorem State.ranged_handOn (g : GroupNo) : (s.handOn g).ranged = s.ranged := by
  unfold State.handOn
  split <;> simp

@[simp] theorem State.ranged_releaseLead (g : GroupNo) (n : StripNo) : (s.releaseLead g n).ranged = s.ranged := by
  simp [State.releaseLead]

@[simp] theorem State.ranged_releaseIfLead (g : Option GroupNo) (n : StripNo) :
    (s.releaseIfLead g n).ranged = s.ranged := by
  unfold State.releaseIfLead
  split
  · split <;> simp
  · rfl

@[simp] theorem State.ranged_groupTouch (n : StripNo) : (s.groupTouch n).ranged = s.ranged := by
  unfold State.groupTouch
  split
  · split <;> simp
  · rfl

@[simp] theorem State.ranged_takeClaim (g : GroupNo) (k : Key) : (s.takeClaim g k).ranged = s.ranged := by
  unfold State.takeClaim
  split
  · rfl
  · split
    · rfl
    · split <;> rfl

@[simp] theorem State.ranged_takeRelease (g : GroupNo) (k : Key) : (s.takeRelease g k).ranged = s.ranged := by
  unfold State.takeRelease
  split <;> simp

@[simp] theorem State.ranged_lapse (g : GroupNo) : (s.lapse g).ranged = s.ranged := by simp [State.lapse]

@[simp] theorem State.ranged_ageGroup (g : GroupNo) : (s.ageGroup g).ranged = s.ranged := by
  unfold State.ageGroup
  split
  · rfl
  · split
    · rfl
    · split <;> simp

@[simp] theorem State.ranged_ageGroups : s.ageGroups.ranged = s.ranged :=
  State.ranged_foldl State.ranged_ageGroup _ _

@[simp] theorem State.ranged_markSoloed : s.markSoloed.ranged = s.ranged := by
  simp only [State.markSoloed, State.ranged]

@[simp] theorem State.ranged_claimRefresh (g : GroupNo) : (s.claimRefresh g).ranged = s.ranged := by
  unfold State.claimRefresh
  split
  · split <;> simp
  · rfl

/-! ### Census (chapter 7) -/

@[simp] theorem State.ranged_learnIn (i : Fin 3) (k : Key) : (s.learnIn i k).ranged = s.ranged := by
  unfold State.learnIn
  split <;> simp

@[simp] theorem State.ranged_takeMark : s.takeMark.ranged = s.ranged := by
  unfold State.takeMark
  split
  · simp; rfl
  · split <;> simp

/-! ### Capture units (chapter 9) -/

@[simp] theorem State.ranged_captureEdge (n : StripNo) (mark : Byte) : (s.captureEdge n mark).ranged = s.ranged := by
  unfold State.captureEdge
  split
  · split <;> simp
  · rfl

@[simp] theorem State.ranged_endDrain (u : UnitNo) : (s.endDrain u).ranged = s.ranged := by
  rw [State.endDrain_eq]
  rfl

@[simp] theorem State.ranged_pack (u : UnitNo) : (s.pack u).ranged = s.ranged := by simp [State.pack]

@[simp] theorem State.ranged_offerHeldEnd (u : UnitNo) : (s.offerHeldEnd u).ranged = s.ranged := by
  unfold State.offerHeldEnd
  dsimp only
  split
  · split <;> simp
  · rfl

@[simp] theorem State.ranged_turnWork (u : UnitNo) : (s.turnWork u).ranged = s.ranged := by
  unfold State.turnWork
  dsimp only
  split
  · simp
  · split <;> split <;> simp

@[simp] theorem State.ranged_packingTurn (u : UnitNo) : (s.packingTurn u).ranged = s.ranged :=
  State.ranged_turnWork _ u

/-! ### Messages and the loop (chapters 1, 4 and 5) -/

@[simp] theorem State.ranged_loseEntries (n : Nat) : (s.loseEntries n).ranged = s.ranged := by
  induction n generalizing s with
  | zero => rfl
  | succ n ih => rw [State.loseEntries, ih, State.ranged_latchNode, State.ranged_count]

@[simp] theorem State.ranged_ownReturn (kind : Byte) : (s.ownReturn kind).ranged = s.ranged := by
  unfold State.ownReturn
  split
  · rw [State.ranged_loseEntries]
    rfl
  · split <;> simp

@[simp] theorem State.ranged_timeoutEntries : s.timeoutEntries.ranged = s.ranged := State.ranged_loseEntries ..

@[simp] theorem State.ranged_insert : s.insert.ranged = s.ranged := by
  obtain ⟨d, q, f, h, -⟩ := s.insert_cases
  rw [h]
  rfl

@[simp] theorem State.ranged_stepAnchors (steps : List AnchorStep) : (s.stepAnchors steps).ranged = s.ranged := by
  simp [State.stepAnchors, State.ranged]

@[simp] theorem State.ranged_emit : s.emit.ranged = s.ranged := by
  calc s.emit.ranged = s.insert.handOffs.ranged := rfl
    _ = s.insert.ranged := by
      unfold State.handOffs
      split <;> simp
    _ = s.ranged := s.ranged_insert

@[simp] theorem State.ranged_processOutputs : s.processOutputs.ranged = s.ranged := State.ranged_stepAnchors ..

@[simp] theorem State.ranged_missed : s.missed.ranged = s.ranged := rfl

@[simp] theorem State.ranged_closePeriod : s.closePeriod.ranged = s.ranged := by
  unfold State.closePeriod
  split <;> simp

@[simp] theorem State.ranged_openPeriod : s.openPeriod.ranged = s.ranged := rfl

@[simp] theorem State.ranged_countGood : s.countGood.ranged = s.ranged := by
  unfold State.countGood
  split <;> rfl

@[simp] theorem State.ranged_placeArrival (bytes : List Byte) : (s.placeArrival bytes).ranged = s.ranged := rfl

/-! ### Reports (chapter 10) -/

@[simp] theorem State.ranged_anchorMeter (b : Nat) : (s.anchorMeter b).ranged = s.ranged := by
  unfold State.anchorMeter
  split
  · exact State.ranged_offer ..
  · rfl

@[simp] theorem State.ranged_visit (src : SourceNo) : (s.visit src).ranged = s.ranged := by
  unfold State.visit
  split
  · exact State.ranged_offer ..
  · rfl

theorem State.ranged_answer (source : Member) (item : QueryItem) (object : Byte) (shares : List ReplyShare)
    {after : State → State} (hafter : ∀ t, (after t).ranged = t.ranged) :
    (s.answer source item object shares after).ranged = s.ranged := by
  unfold State.answer
  split
  · simp
  · rw [hafter, State.ranged_foldl fun t _ => State.ranged_offer ..]

end

end Sys2Proof.Machine
end

section
/-! SUPPORT. The ranges of the node's arithmetic: coefficients (R43), ramps (R46 to R49), strip and tap products (R55, R56, R59)
and the lane sums (R60). -/

namespace Sys2Proof.Machine

open Sys2Proof

/-! ### Clamping -/

theorem clamp_range {lo hi : Int} (h : lo ≤ hi) (x : Int) : lo ≤ clamp lo hi x ∧ clamp lo hi x ≤ hi := by
  unfold clamp
  omega

theorem clampLevel_range (x : Int) : -1440 ≤ clampLevel x ∧ clampLevel x ≤ 120 := clamp_range (by decide) x

theorem clampNat_range {lo hi : Nat} (h : lo ≤ hi) (n : Nat) : lo ≤ clampNat lo hi n ∧ clampNat lo hi n ≤ hi := by
  unfold clampNat
  omega

/-! ### The greatest coefficient (R43) -/

/-- What the search finds is 0 or a number `halfBelow` holds of. -/
theorem coefSearch_eq_zero_or_halfBelow (level : Int) (bits acc : Nat) (h : acc = 0 ∨ halfBelow level acc = true) :
    coefSearch level bits acc = 0 ∨ halfBelow level (coefSearch level bits acc) = true := by
  induction bits generalizing acc with
  | zero => exact h
  | succ bits ih =>
    unfold coefSearch
    cases hb : halfBelow level (acc + 2 ^ bits) with
    | true => exact ih _ (.inr hb)
    | false => exact ih _ h

/-- At or below +120 no number above 16,697,825, the coefficient of +120, is found: it would be too great at +120 already. -/
theorem le_of_halfBelow {level : Int} (hlevel : level ≤ 120) {n : Nat} (h : halfBelow level n = true) : n ≤ 16697825 := by
  by_contra hn
  unfold halfBelow at h
  generalize hk : (-(level / 200)).toNat = k at h
  generalize hr : (level % 200).toNat = r at h
  have hpow : 33395651 ^ 200 * 10 ^ (k * 200) ≤ 8388608 ^ 200 * 10 ^ 120 * 10 ^ (k * 200) := calc
    33395651 ^ 200 * 10 ^ (k * 200) ≤ (2 * n - 1) ^ 200 * 10 ^ (k * 200) :=
      Nat.mul_le_mul_right _ (Nat.pow_le_pow_left (by omega) _)
    _ = ((2 * n - 1) * 10 ^ k) ^ 200 := by rw [mul_pow, pow_mul]
    _ ≤ 8388608 ^ 200 * 10 ^ r := of_decide_eq_true h
    _ ≤ 8388608 ^ 200 * 10 ^ (120 + k * 200) := Nat.mul_le_mul_left _ (Nat.pow_le_pow_right (by decide) (by omega))
    _ = 8388608 ^ 200 * 10 ^ 120 * 10 ^ (k * 200) := by rw [pow_add, mul_assoc]
  exact absurd (Nat.le_of_mul_le_mul_right hpow (by positivity)) (by decide)

theorem coef_le (level : Int) : coef level ≤ 16697825 := by
  unfold coef
  split
  · decide
  · rcases coefSearch_eq_zero_or_halfBelow (min level 120) 24 0 (.inl rfl) with h | h
    · omega
    · exact le_of_halfBelow (by omega) h

theorem Strip.target_le (soloActive : Bool) (active : BitVec 16) (st : Strip) :
    st.target soloActive active ≤ 16697825 := by
  unfold Strip.target
  split
  · decide
  · exact coef_le _

/-! ### Ramps (R46 to R49) -/

theorem Ramp.rest_sound (longest : Nat) : Ramp.rest.Sound longest := by simp [Ramp.rest, Ramp.Sound]

theorem Ramp.Sound.applied_le {longest : Nat} {r : Ramp} (h : r.Sound longest) : r.applied ≤ 16697825 := by
  obtain ⟨hstart, htarget, -, -, -, hmax, -⟩ := h
  omega

/-- The exact change of a step before the length is between the two ends of the ramp. -/
theorem tdiv_between {d : Int} {k n : Nat} (hk : k ≤ n) (hn : 0 < n) :
    min 0 d ≤ (d * k).tdiv n ∧ (d * k).tdiv n ≤ max 0 d := by
  have key : ∀ c : Int, 0 ≤ c → 0 ≤ (c * k).tdiv n ∧ (c * k).tdiv n ≤ c := fun c hc => by
    have hck : 0 ≤ c * k := by positivity
    refine ⟨Int.tdiv_nonneg hck (by omega), ?_⟩
    rw [Int.tdiv_eq_ediv_of_nonneg hck]
    exact Int.ediv_le_of_le_mul (by omega) (Int.mul_le_mul_of_nonneg_left (by omega) hc)
  rcases le_total 0 d with hd | hd
  · have := key d hd
    omega
  · have := key (-d) (by omega)
    rw [Int.neg_mul, Int.neg_tdiv] at this
    omega

/-- R49: a step of a ramp in progress. -/
theorem Ramp.Sound.stepOnce {longest : Nat} {r : Ramp} (h : r.Sound longest) (hp : r.step < r.length) :
    r.stepOnce.Sound longest := by
  obtain ⟨hstart, htarget, hlength, hstep, -, -, -⟩ := h
  have hb := tdiv_between (d := (r.target : Int) - r.start) (k := r.step + 1) (n := r.length) hp (by omega)
  have hend : r.step + 1 = r.length →
      (((r.target : Int) - r.start) * ((r.step + 1 : Nat) : Int)).tdiv r.length = (r.target : Int) - r.start := by
    intro e
    rw [e]
    exact Int.mul_tdiv_cancel _ (by omega)
  push_cast at hb hend
  refine ⟨hstart, htarget, hlength, hp, ?_, ?_, ?_⟩
  · show min r.start r.target ≤ Int.toNat _
    omega
  · show Int.toNat _ ≤ max r.start r.target
    omega
  · intro e
    show Int.toNat _ = r.target
    rw [hend e]
    omega

theorem Ramp.Sound.advance {longest : Nat} {r : Ramp} (h : r.Sound longest) : r.advance.Sound longest := by
  unfold Ramp.advance
  split
  · rename_i hp
    exact h.stepOnce (of_decide_eq_true hp)
  · exact h

/-- R45, R48: a recomputation with a ramp length of its cause. -/
theorem Ramp.Sound.retarget {longest target length : Nat} {r : Ramp} (h : r.Sound longest) (htarget : target ≤ 16697825)
    (hlength : 1 ≤ length ∧ length ≤ longest) : (r.retarget target length).Sound longest := by
  have happlied := h.applied_le
  unfold Ramp.retarget
  split
  · exact h
  · refine ⟨happlied, htarget, hlength.2, Nat.zero_le _, ?_, ?_, fun e => ?_⟩
    · exact min_le_left ..
    · exact le_max_left ..
    · simp only at e
      omega

/-! ### Products and sums (R55 to R60) -/

/-- The one rounding rule keeps a bound that is a whole number of divisors. -/
theorem roundDiv_range {x b : Int} {d : Nat} (hd : 0 < d) (h : -(b * d) ≤ x ∧ x ≤ b * d) :
    -b ≤ roundDiv x d ∧ roundDiv x d ≤ b := by
  unfold roundDiv
  constructor
  · exact Int.le_ediv_of_mul_le (by omega) (by rw [Int.neg_mul]; omega)
  · have : (x + (d / 2 : Nat)) / (d : Int) < b + 1 :=
      Int.ediv_lt_of_lt_mul (by omega) (by rw [Int.add_mul]; omega)
    omega

theorem mul_range {x a b : Int} {k : Nat} (hx : -a ≤ x ∧ x ≤ a) (hk : (k : Int) ≤ b) :
    -(a * b) ≤ x * k ∧ x * k ≤ a * b := by
  have h : |x * k| ≤ a * b := by
    rw [abs_mul, Nat.abs_cast]
    exact mul_le_mul (abs_le.mpr hx) hk (by omega) (by omega)
  exact abs_le.mp h

/-- R56: a strip product of a 24-bit sample. -/
theorem Strip.product_range {x : Int} {st : Strip} (hx : -8388608 ≤ x ∧ x ≤ 8388608) (h : st.ramp.applied ≤ 16697825) :
    -33395650 ≤ st.product x ∧ st.product x ≤ 33395650 :=
  roundDiv_range (by decide) (mul_range (b := 16697825) hx (by omega))

/-- R59: a tap product does not exceed the strip product. -/
theorem tapProduct_range {y b : Int} {t : Tap} (hy : -b ≤ y ∧ y ≤ b) (ht : t.coef ≤ 32768) :
    -b ≤ tapProduct y t ∧ tapProduct y t ≤ b :=
  roundDiv_range (by decide) (mul_range (b := 32768) hy (by omega))

/-- What a placement's taps add to a lane that none of them names. -/
theorem sum_taps_eq_zero {y : Int} {j : LaneNo} {taps : List Tap} (h : j ∉ taps.map Tap.lane) :
    (taps.map fun t => if t.lane = j then tapProduct y t else 0).sum = 0 := by
  induction taps with
  | nil => rfl
  | cons t taps ih =>
    simp only [List.map_cons, List.mem_cons, not_or] at h
    rw [List.map_cons, List.sum_cons, if_neg fun e => h.1 e.symm, ih h.2, add_zero]

/-- R60: on distinct lanes at most one tap of a placement adds to a lane. -/
theorem sum_taps_range {y b : Int} {j : LaneNo} {taps : List Tap} (hy : -b ≤ y ∧ y ≤ b)
    (hlanes : (taps.map Tap.lane).Nodup) (hcoef : ∀ t ∈ taps, t.coef ≤ 32768) :
    -b ≤ (taps.map fun t => if t.lane = j then tapProduct y t else 0).sum ∧
      (taps.map fun t => if t.lane = j then tapProduct y t else 0).sum ≤ b := by
  induction taps with
  | nil =>
    simp only [List.map_nil, List.sum_nil]
    omega
  | cons t taps ih =>
    rw [List.map_cons, List.nodup_cons] at hlanes
    rw [List.map_cons, List.sum_cons]
    by_cases hj : t.lane = j
    · rw [if_pos hj, sum_taps_eq_zero (hj ▸ hlanes.1), add_zero]
      exact tapProduct_range hy (hcoef t (by simp))
    · rw [if_neg hj, zero_add]
      exact ih hlanes.2 fun t ht => hcoef t (by simp [ht])

/-- R53: an input sample has 24 bits. -/
theorem State.inputSample_range (samples : List Sample) (n : StripNo) (s : State) :
    -8388608 ≤ s.inputSample samples n ∧ s.inputSample samples n ≤ 8388608 := by
  unfold State.inputSample
  split
  · have hlo := BitVec.le_toInt (samples.getD n.val 0#24)
    have hhi := BitVec.toInt_lt (x := samples.getD n.val 0#24)
    omega
  · decide

end Sys2Proof.Machine
end

section
/-! SUPPORT. The ranges of strip records, cue lists and contributions, and that each operation of the node keeps them. -/

namespace Sys2Proof.Machine

open Sys2Proof

/-! ### Strip records (R24) -/

/-- `Strip.Sound` with its parts named: a proof about a changed record gives the parts that changed. -/
structure Strip.InRange (st : Strip) : Prop where
  trim : -200 ≤ st.trim ∧ st.trim ≤ 200
  live : -1440 ≤ st.live ∧ st.live ≤ 120
  auto : -1440 ≤ st.auto ∧ st.auto ≤ 120
  offset : -400 ≤ st.offset ∧ st.offset ≤ 400
  glide : 48 ≤ st.glide ∧ st.glide ≤ 48000
  placement : placementSound st.placement
  staged : ∀ taps ∈ st.staged, stagedSound taps
  incoming : ∀ taps ∈ st.incoming, placementSound taps
  swap : st.incoming.isSome = st.swapPending
  latched : st.latched = true → st.mode = .latch
  ramp : st.ramp.Sound 48000
  peak : st.peak ≤ 33395650

theorem Strip.inRange_iff (st : Strip) : st.InRange ↔ st.Sound := by
  constructor
  · rintro ⟨trim, live, auto, offset, glide, placement, staged, incoming, swap, latched, ramp, peak⟩
    exact ⟨trim, live, auto, offset, glide, placement, staged, incoming, swap, latched, ramp, peak⟩
  · rintro ⟨trim, live, auto, offset, glide, placement, staged, incoming, swap, latched, ramp, peak⟩
    exact ⟨trim, live, auto, offset, glide, placement, staged, incoming, swap, latched, ramp, peak⟩

theorem placementSound_nil : placementSound [] := by simp [placementSound]

/-- R24: a record after either reset. -/
theorem Strip.reset_inRange {glide : Nat} (h : 48 ≤ glide ∧ glide ≤ 48000) : (Strip.reset glide).InRange where
  trim := by simp [Strip.reset]
  live := by simp [Strip.reset]
  auto := by simp [Strip.reset]
  offset := by simp [Strip.reset]
  glide := h
  placement := placementSound_nil
  staged := nofun
  incoming := nofun
  swap := rfl
  latched := nofun
  ramp := Ramp.rest_sound _
  peak := Nat.zero_le _

section
variable {st : Strip} (h : st.InRange)
include h

theorem Strip.InRange.effective : -1440 ≤ st.effective ∧ st.effective ≤ 120 := by
  unfold Strip.effective
  split
  · exact h.live
  · exact h.auto

/-- R45: a recomputation, with the ramp length of its cause. -/
theorem Strip.InRange.retarget (soloActive : Bool) (active : BitVec 16) {length : Nat}
    (hlength : 1 ≤ length ∧ length ≤ 48000) : (st.retarget soloActive active length).InRange :=
  { h with ramp := h.ramp.retarget (st.target_le soloActive active) hlength }

theorem Strip.InRange.retargeted (s : State) {length : Nat} (hlength : 1 ≤ length ∧ length ≤ 48000) :
    (s.retargeted length st).InRange := h.retarget _ _ hlength

theorem Strip.InRange.retargeted_glide (s : State) : (s.retargeted st.glide st).InRange :=
  h.retargeted s ⟨by have := h.glide; omega, h.glide.2⟩

theorem Strip.InRange.touchEdge (rolling : Bool) : (st.touchEdge rolling).InRange :=
  { h with
    live := by
      show -1440 ≤ ite .. ∧ ite .. ≤ 120
      split
      · exact h.auto
      · exact h.live
    latched := by
      show ite .. = true → st.mode = .latch
      split
      · rename_i hl
        exact fun _ => hl.1
      · exact h.latched }

theorem Strip.InRange.startRoll : st.startRoll.InRange := by
  unfold Strip.startRoll
  split
  · rename_i hl
    exact { h with latched := fun _ => hl.1 }
  · exact h

theorem Strip.InRange.parkStrip (s : State) : (s.parkStrip st).InRange := by
  have hparked : ({ st with latched := false } : Strip).InRange := { h with latched := nofun }
  unfold State.parkStrip
  dsimp only
  split
  · exact hparked
  · exact hparked.retargeted_glide s

theorem Strip.InRange.changeMode (m : Mode) : (st.changeMode m).InRange := by
  have hentered : ({ st with mode := m, latched := false } : Strip).InRange := { h with latched := nofun }
  unfold Strip.changeMode
  dsimp only
  split
  · exact { hentered with live := h.effective }
  · exact hentered

theorem Strip.InRange.setPlainFields (f : StripSetFields) : (st.setPlainFields f).InRange :=
  { h with
    trim := by
      show -200 ≤ ite .. ∧ ite .. ≤ 200
      split
      · exact clamp_range (by decide) _
      · exact h.trim }

/-- R33: the offset after a delta. -/
theorem Strip.InRange.withDelta (s : State) (change : Int) : (s.withDelta change st).InRange := by
  unfold State.withDelta
  split
  · exact h
  · have hmoved : ({ st with offset := offsetAfter st.offset change } : Strip).InRange :=
      { h with offset := clamp_range (by decide) _ }
    exact hmoved.retargeted s (by decide)

/-- R112: the record after a firing event of a cue in range. -/
theorem Strip.InRange.fired (s : State) {c : Cue} (hc : c.inRange) : (s.fired c st).InRange := by
  obtain ⟨hlo, hhi, hramp⟩ := hc
  have hset : ({ st with auto := c.level } : Strip).InRange := { h with auto := ⟨hlo, hhi⟩ }
  unfold State.fired
  dsimp only
  split
  · exact hset
  · exact hset.retargeted s hramp

theorem Strip.InRange.firedAt (s : State) (q : Position) {l : List Cue} (hl : ∀ c ∈ l, c.inRange) :
    (s.firedAt q l st).InRange := by
  unfold State.firedAt
  split
  · rename_i c hc
    exact h.fired s (hl c ((List.takeWhile_sublist _).mem (List.mem_of_getLast? hc)))
  · exact h

/-- R39: the incoming placement takes over. -/
theorem Strip.InRange.swapped : st.swapped.InRange :=
  { h with
    placement := by
      show placementSound (st.incoming.getD st.placement)
      cases hi : st.incoming with
      | none => exact h.placement
      | some taps => exact h.incoming taps hi
    incoming := nofun
    swap := rfl }

theorem Strip.InRange.stepped : st.stepped.InRange := { h with ramp := h.ramp.advance }

/-- R56: the product after the step. -/
theorem Strip.InRange.product {x : Int} (hx : -8388608 ≤ x ∧ x ≤ 8388608) :
    -33395650 ≤ st.stepped.product x ∧ st.stepped.product x ≤ 33395650 :=
  Strip.product_range hx h.ramp.advance.applied_le

theorem Strip.InRange.processed (s : State) {x : Int} (hx : -8388608 ≤ x ∧ x ≤ 8388608) :
    (s.processed x st).InRange := by
  have hafter : ({ st.stepped with peak := max st.peak (st.stepped.product x).natAbs } : Strip).InRange :=
    { h.stepped with
      peak := by
        have hpeak := h.peak
        have hproduct := h.product hx
        show max st.peak (st.stepped.product x).natAbs ≤ 33395650
        omega }
  unfold State.processed
  dsimp only
  split
  · exact hafter.swapped.retargeted s (by decide)
  · exact hafter

end

/-- R27: the length of a STRIP SET's recomputation is the short or the move length, or the strip's glide. -/
theorem stripSetLength_range {active : BitVec 16} {before after : Strip} (hafter : after.InRange) {length : Nat}
    (hl : stripSetLength active before after = some length) : 1 ≤ length ∧ length ≤ 48000 := by
  have hglide := hafter.glide
  have hcause : length = shortRamp ∨ length = moveRamp ∨ length = after.glide := by
    unfold stripSetLength at hl
    grind
  rcases hcause with rfl | rfl | rfl
  · decide
  · decide
  · omega

/-! ### Placements (R36 to R38) -/

/-- Each tap taken is one of those carried, in their order. -/
theorem forall₂_of_tapsOf {fs : List TapField} {ts : List Tap} (h : tapsOf fs = some ts) :
    List.Forall₂ (fun f t => tapOf f = some t) fs ts := by
  rw [tapsOf, ← List.mapM'_eq_mapM] at h
  induction fs generalizing ts with
  | nil =>
    rw [List.mapM'_nil] at h
    cases h
    exact .nil
  | cons f fs ih =>
    simp only [List.mapM'_cons, Option.bind_eq_bind, Option.pure_def, Option.bind_eq_some_iff, Option.some.injEq] at h
    obtain ⟨t, ht, ts, hts, rfl⟩ := h
    exact .cons ht (ih hts)

theorem tapsOf_length {fs : List TapField} {ts : List Tap} (h : tapsOf fs = some ts) : ts.length = fs.length :=
  (forall₂_of_tapsOf h).length_eq.symm

/-- R36: a tap's coefficient is clamped as it is taken. -/
theorem tapOf_coef_le {f : TapField} {t : Tap} (h : tapOf f = some t) : t.coef ≤ 32768 := by
  obtain ⟨lane, -, rfl⟩ := Option.map_eq_some_iff.mp h
  exact min_le_left ..

theorem tapsOf_coef_le {fs : List TapField} {ts : List Tap} (h : tapsOf fs = some ts) : ∀ t ∈ ts, t.coef ≤ 32768 := by
  intro t ht
  obtain ⟨i, hi, rfl⟩ := List.getElem_of_mem ht
  exact tapOf_coef_le ((forall₂_of_tapsOf h).get (by rw [← tapsOf_length h]; exact hi) hi)

/-- R36: what a well-formed PLACE carries: as many taps as its count says, on distinct lanes, and on lanes of their own
beside the staged ones where it is part 2. -/
theorem placeTaps_eq_some {f : PlaceFields} {staged : Option (List Tap)} {taps : List Tap}
    (h : placeTaps f staged = some taps) :
    taps.length = f.count.toNat ∧ f.count.toNat ≤ 4 ∧ placementSound taps ∧
      (f.parts ≠ 1#8 → f.parts = 2#8 ∧ f.count ≠ 0#8 ∧
        (f.part ≠ 1#8 → staged.isSome = true ∧ ((staged.getD [] ++ taps).map Tap.lane).Nodup)) := by
  unfold placeTaps at h
  split at h
  · cases h
  · rename_i ts hts
    dsimp only at h
    split at h
    · rename_i hform
      cases h
      obtain ⟨hparts, hpart, hcount, hempty, hdistinct, hsecond⟩ := hform
      have hlength : taps.length = f.count.toNat := by
        rw [tapsOf_length hts, carriedTaps, List.length_take]
        exact min_eq_left hcount
      refine ⟨hlength, hcount, ⟨by omega, of_decide_eq_true hdistinct, tapsOf_coef_le hts⟩, fun h1 => ?_⟩
      have h2 : f.parts = 2#8 := hparts.resolve_left h1
      refine ⟨h2, fun e => hempty ⟨h2, e⟩, fun hp => ?_⟩
      obtain ⟨hsome, hd⟩ := hsecond (hpart.resolve_left hp)
      exact ⟨hsome, of_decide_eq_true hd⟩
    · cases h

/-- R36: part 2's taps after the staged ones. -/
theorem placementSound_append {staged taps : List Tap} (hstaged : stagedSound staged) (hlength : taps.length ≤ 4)
    (htaps : placementSound taps) (hlanes : ((staged ++ taps).map Tap.lane).Nodup) : placementSound (staged ++ taps) := by
  obtain ⟨-, hfour, -, -, hcoef⟩ := hstaged
  obtain ⟨-, -, hcoef'⟩ := htaps
  refine ⟨by rw [List.length_append]; omega, hlanes, fun t ht => ?_⟩
  exact (List.mem_append.mp ht).elim (hcoef t) (hcoef' t)

/-! ### Cue lists (R106 to R110) -/

/-- R106: one strip's cue list. -/
structure CuesInRange (l : List Cue) : Prop where
  length : l.length ≤ 16
  order : l.Pairwise fun c d => c.position < d.position
  range : ∀ c ∈ l, c.inRange

theorem CuesInRange.nil : CuesInRange [] := ⟨by decide, .nil, nofun⟩

theorem CuesInRange.sublist {l l' : List Cue} (h : CuesInRange l) (hl : l'.Sublist l) : CuesInRange l' :=
  ⟨hl.length_le.trans h.length, h.order.sublist hl, fun c hc => h.range c (hl.mem hc)⟩

/-- R108: an insertion brings in no cue but the one offered. -/
theorem mem_insertCue {c d : Cue} {l : List Cue} (h : d ∈ insertCue c l) : d = c ∨ d ∈ l := by
  induction l with
  | nil => exact .inl (List.mem_singleton.mp h)
  | cons a l ih =>
    unfold insertCue at h
    split at h
    · exact List.mem_cons.mp h
    · split at h
      · exact (List.mem_cons.mp h).imp_right (List.mem_cons_of_mem _)
      · rcases List.mem_cons.mp h with rfl | h
        · exact .inr (by simp)
        · exact (ih h).imp_right (List.mem_cons_of_mem _)

/-- R108: an insertion keeps the positions strictly increasing. -/
theorem insertCue_order (c : Cue) {l : List Cue} (h : l.Pairwise fun c d => c.position < d.position) :
    (insertCue c l).Pairwise fun c d => c.position < d.position := by
  induction l with
  | nil => exact List.pairwise_singleton ..
  | cons a l ih =>
    obtain ⟨ha, hl⟩ := List.pairwise_cons.mp h
    unfold insertCue
    split
    · rename_i hc
      refine List.pairwise_cons.mpr ⟨fun d hd => ?_, h⟩
      rcases List.mem_cons.mp hd with rfl | hd
      · exact hc
      · exact BitVec.lt_trans hc (ha d hd)
    · rename_i hge
      split
      · rename_i he
        exact List.pairwise_cons.mpr ⟨fun d hd => he ▸ ha d hd, hl⟩
      · rename_i hne
        refine List.pairwise_cons.mpr ⟨fun d hd => ?_, ih hl⟩
        rcases mem_insertCue hd with rfl | hd
        · bv_omega
        · exact ha d hd

theorem CuesInRange.offerCue {c : Cue} {l : List Cue} (h : CuesInRange l) (hc : c.inRange) :
    CuesInRange (offerCue c l) where
  length := List.length_take_le ..
  order := (insertCue_order c h.order).sublist (List.take_sublist ..)
  range d hd := (mem_insertCue ((List.take_sublist ..).mem hd)).elim (fun e => e ▸ hc) (h.range d)

/-- R107: the cue a CUE forms. -/
theorem formCue_inRange (f : CueFields) : (formCue f).inRange := by
  have hlevel := clampLevel_range f.level.toInt
  refine ⟨hlevel.1, hlevel.2, ?_, ?_⟩ <;> simp only [formCue, cueRamp] <;> omega

/-! ### Contributions (R14, R60) -/

theorem LaneAdder.zero_sound : LaneAdder.zero.Sound := by
  constructor <;> intros <;> simp [LaneAdder.zero, zeroRow, contributionInRange]

theorem LaneAdder.Sound.advance {a : LaneAdder} (h : a.Sound) : a.advance.Sound := by
  obtain ⟨hhistory, hhanded⟩ := h
  constructor
  · intro d j
    simp only [LaneAdder.advance, Fin.getElem_fin, Vector.getElem_ofFn]
    split
    · exact hhanded j
    · exact hhistory ⟨d.val - 1, by omega⟩ j
  · intro j
    simp [LaneAdder.advance, zeroRow, contributionInRange]

/-! ### The node's state -/

/-- The three range invariants together, strip by strip and list by list. -/
structure State.InRange (s : State) : Prop where
  strip : ∀ n, (s.strip n).InRange
  cues : ∀ n, CuesInRange (s.cueList n)
  glide : 48 ≤ s.clock.profile.glide ∧ s.clock.profile.glide ≤ 48000
  sums : s.adder.Sound

theorem State.inRange_iff (s : State) : s.InRange ↔ s.StripsSound ∧ s.CuesSound ∧ s.adder.Sound := by
  constructor
  · rintro ⟨hstrip, hcues, hglide, hsums⟩
    exact ⟨⟨fun n => (Strip.inRange_iff _).mp (hstrip n), fun n => (hcues n).range, hglide⟩,
      fun n => ⟨(hcues n).length, (hcues n).order, (hcues n).range⟩, hsums⟩
  · rintro ⟨⟨hstrip, -, hglide⟩, hcues, hsums⟩
    refine ⟨fun n => (Strip.inRange_iff _).mpr (hstrip n), fun n => ?_, hglide, hsums⟩
    obtain ⟨hlength, horder, hrange⟩ := hcues n
    exact ⟨hlength, horder, hrange⟩

/-- The ranges are kept by everything that leaves what they read as it was. -/
theorem State.InRange.of_ranged {s t : State} (h : s.InRange) (e : t.ranged = s.ranged) : t.InRange := by
  simp only [State.ranged, Prod.mk.injEq] at e
  obtain ⟨hstrips, hcues, hadder, hprofile⟩ := e
  refine ⟨fun n => ?_, fun n => ?_, hprofile ▸ h.glide, hadder ▸ h.sums⟩
  · rw [State.strip, hstrips]
    exact h.strip n
  · rw [State.cueList, hcues]
    exact h.cues n

/-- Power reset leaves every range kept. -/
theorem State.reset_inRange : State.reset.InRange where
  strip n := by
    have : State.reset.strip n = Strip.reset 12000 := by simp [State.strip, State.reset, StripEngine.reset, Profile.default]
    rw [this]
    exact Strip.reset_inRange (by decide)
  cues n := by
    have : State.reset.cueList n = [] := by simp [State.cueList, State.reset, noCues]
    rw [this]
    exact CuesInRange.nil
  glide := by decide
  sums := LaneAdder.zero_sound

/-- A step under a condition, and otherwise nothing. -/
theorem State.InRange.ite {s t : State} {p : Prop} [Decidable p] (h : s.InRange) (ht : t.InRange) :
    (if p then t else s).InRange := by
  split
  · exact ht
  · exact h

/-- A fold of operations that keep the ranges keeps them. -/
theorem State.InRange.foldl {α : Type} {f : State → α → State} (hf : ∀ t a, t.InRange → (f t a).InRange) (l : List α)
    {s : State} (h : s.InRange) : (l.foldl f s).InRange := by
  induction l generalizing s with
  | nil => exact h
  | cons a l ih => exact ih (hf s a h)

section
variable {s : State} (h : s.InRange)
include h

/-! ### The primitive updates -/

theorem State.InRange.setStrip (n : StripNo) {st : Strip} (hst : st.InRange) : (s.setStrip n st).InRange :=
  { h with
    strip := fun m => by
      rw [State.strip_setStrip]
      split
      · exact hst
      · exact h.strip m }

theorem State.InRange.mapStrips {f : StripNo → Strip → Strip} (hf : ∀ n, (f n (s.strip n)).InRange) :
    (s.mapStrips f).InRange where
  strip n := by
    rw [State.strip_mapStrips]
    exact hf n
  cues n := by
    rw [State.cueList_mapStrips]
    exact h.cues n
  glide := by
    rw [State.mapStrips_clock]
    exact h.glide
  sums := by
    rw [State.mapStrips_adder]
    exact h.sums

theorem State.InRange.setRetargeted (n : StripNo) {length : Nat} {st : Strip} (hst : st.InRange)
    (hlength : 1 ≤ length ∧ length ≤ 48000) : (s.setRetargeted n length st).InRange :=
  h.setStrip n (hst.retargeted s hlength)

theorem State.InRange.retargetAll {length : Nat} (hlength : 1 ≤ length ∧ length ≤ 48000) :
    (s.retargetAll length).InRange := h.mapStrips fun n => (h.strip n).retargeted s hlength

theorem State.InRange.setCues (n : StripNo) {l : List Cue} (hl : CuesInRange l) : (s.setCues n l).InRange :=
  { h with
    cues := fun m => by
      rw [State.cueList_setCues]
      split
      · exact hl
      · exact h.cues m }

theorem State.InRange.withCues {lists : Vector (List Cue) 32} (hl : ∀ n : StripNo, CuesInRange lists[n]) :
    ({ s with cues := lists } : State).InRange := ⟨h.strip, hl, h.glide, h.sums⟩

theorem State.InRange.withClock {c : Clock} (hc : 48 ≤ c.profile.glide ∧ c.profile.glide ≤ 48000) :
    ({ s with clock := c } : State).InRange := ⟨h.strip, h.cues, hc, h.sums⟩

theorem State.InRange.withAdder {a : LaneAdder} (ha : a.Sound) : ({ s with adder := a } : State).InRange :=
  ⟨h.strip, h.cues, h.glide, ha⟩

theorem State.InRange.emptyCues : s.emptyCues.InRange :=
  h.withCues fun n => by
    rw [noCues, Fin.getElem_fin, Vector.getElem_replicate]
    exact CuesInRange.nil

theorem State.InRange.setUnit (u : UnitNo) (c : CaptureUnit) : (s.setUnit u c).InRange := h.of_ranged rfl

theorem State.InRange.setStripEffective (n : StripNo) {length : Nat} {st : Strip} (hst : st.InRange)
    (hlength : 1 ≤ length ∧ length ≤ 48000) : (s.setStripEffective n length st).InRange := by
  unfold State.setStripEffective
  split
  · exact h.setStrip n hst
  · exact h.setRetargeted n hst hlength

theorem State.InRange.refuse (source : Member) (kind object : Byte) (reason : Reason) :
    (s.refuse source kind object reason).InRange := h.of_ranged (by simp)

/-! ### Who acts (R26, R85, R100) -/

theorem State.InRange.whenActing (source : Member) {act : State → State} (hact : (act s).InRange) :
    (s.whenActing source act).InRange := by
  unfold State.whenActing
  split
  · exact hact
  · exact h

theorem State.InRange.stripCommand (source : Member) (kind strip : Byte) {act : StripNo → State → State}
    (hact : ∀ n, (act n s).InRange) : (s.stripCommand source kind strip act).InRange := by
  unfold State.stripCommand
  split
  · exact hact _
  · exact h.refuse ..

theorem State.InRange.stripsCommand (source : Member) (kind strip : Byte) {act : StripNo → State → State}
    (hact : ∀ n t, t.InRange → (act n t).InRange) : (s.stripsCommand source kind strip act).InRange := by
  unfold State.stripsCommand
  split
  · exact h.foldl (fun t n => hact n t) _
  · exact h.stripCommand _ _ _ fun n => hact n s h

theorem State.InRange.unitCommand (source : Member) (kind unit : Byte) {act : UnitNo → State → State}
    (hact : ∀ u, (act u s).InRange) : (s.unitCommand source kind unit act).InRange := by
  unfold State.unitCommand
  split
  · exact hact _
  · exact h.refuse ..

/-! ### STRIP SET and MUTE GROUP (R26 to R35) -/

theorem State.InRange.setGlideField (f : StripSetFields) (n : StripNo) : (s.setGlideField f n).InRange := by
  unfold State.setGlideField
  split
  · exact h.setStrip n { h.strip n with glide := clampNat_range (by decide) _ }
  · exact h

theorem State.InRange.setLinkField (f : StripSetFields) (n : StripNo) : (s.setLinkField f n).InRange := by
  unfold State.setLinkField
  split
  · exact (h.setStrip n (st := { s.strip n with linkGroup := linkField f.group }) { h.strip n with }).of_ranged (by simp)
  · exact h

theorem State.InRange.setModeField (f : StripSetFields) (n : StripNo) : (s.setModeField f n).InRange := by
  unfold State.setModeField
  split
  · rename_i m _
    split
    · have hentered := h.setStrip n ((h.strip n).changeMode m)
      dsimp only
      split
      · exact hentered.of_ranged (by simp)
      · exact hentered
    · exact h
  · exact h

theorem State.InRange.applyStripSet (f : StripSetFields) (n : StripNo) : (s.applyStripSet f n).InRange := by
  have hmoded := ((h.setGlideField f n).setLinkField f n).setModeField f n
  have hafter := (hmoded.strip n).setPlainFields f
  unfold State.applyStripSet
  dsimp only
  split
  · rename_i hl
    exact hmoded.setRetargeted n hafter (stripSetLength_range hafter hl)
  · exact hmoded.setStrip n hafter

theorem State.InRange.actStripSet (source : Member) (f : StripSetFields) : (s.actStripSet source f).InRange := by
  unfold State.actStripSet
  split
  · exact h.refuse ..
  · exact h.stripsCommand _ _ _ fun n t ht => ht.applyStripSet f n

theorem State.InRange.setActiveMutes (active : BitVec 16) : (s.setActiveMutes active).InRange := by
  have ht : ({ s with engine.activeMutes := active } : State).InRange := h.of_ranged rfl
  refine ht.mapStrips fun n => ?_
  split
  · exact (ht.strip n).retargeted _ (by decide)
  · exact ht.strip n

theorem State.InRange.actMuteGroup (source : Member) (group state : Byte) :
    (s.actMuteGroup source group state).InRange := by
  unfold State.actMuteGroup
  split
  · exact h.setActiveMutes _
  · exact h.refuse ..

/-! ### PLACE (R36 to R38) -/

theorem State.InRange.commit (n : StripNo) {taps : List Tap} (htaps : placementSound taps) :
    (s.commit n taps).InRange := by
  have hst := h.strip n
  unfold State.commit
  dsimp only
  split
  · rename_i hpending
    exact h.setStrip n { hst with incoming := fun _ e => Option.some.inj e ▸ htaps, swap := hpending.symm }
  · split
    · exact h.setRetargeted n { hst with placement := htaps } (by decide)
    · exact h.setRetargeted n { hst with incoming := fun _ e => Option.some.inj e ▸ htaps, swap := rfl } (by decide)

theorem State.InRange.takePlace {f : PlaceFields} {n : StripNo} {taps : List Tap}
    (hplace : placeTaps f (s.strip n).staged = some taps) : (s.takePlace f n taps).InRange := by
  obtain ⟨hlength, hfour, htaps, hparts⟩ := placeTaps_eq_some hplace
  have hst := h.strip n
  have hcleared : (s.setStrip n { s.strip n with staged := none }).InRange := h.setStrip n { hst with staged := nofun }
  unfold State.takePlace
  dsimp only
  split
  · exact hcleared.commit n htaps
  · rename_i h1
    obtain ⟨-, hcount, hsecond⟩ := hparts h1
    split
    · have hstaged : stagedSound taps := by
        refine ⟨fun e => hcount ?_, by omega, htaps⟩
        apply BitVec.eq_of_toNat_eq
        rw [← hlength, e]
        rfl
      exact h.setStrip n { hst with staged := fun _ e => Option.some.inj e ▸ hstaged }
    · rename_i hp
      obtain ⟨hsome, hlanes⟩ := hsecond hp
      obtain ⟨staged, hs⟩ := Option.isSome_iff_exists.mp hsome
      rw [hs, Option.getD_some] at hlanes
      rw [hs, Option.getD_some]
      exact hcleared.commit n (placementSound_append (hst.staged staged hs) (by omega) htaps hlanes)

theorem State.InRange.actPlace (source : Member) (f : PlaceFields) : (s.actPlace source f).InRange := by
  unfold State.actPlace
  split
  · exact h.refuse ..
  · rename_i n _
    split
    · rename_i hplace
      exact h.takePlace hplace
    · exact (h.setStrip n (st := { s.strip n with staged := none }) { h.strip n with staged := nofun }).refuse ..

/-! ### Cues and the transport (R105 to R114) -/

theorem State.InRange.fireCue (n : StripNo) {c : Cue} (hc : c.inRange) : (s.fireCue n c).InRange :=
  h.setStrip n ((h.strip n).fired s hc)

theorem State.InRange.offerCueTo (n : StripNo) {c : Cue} (hc : c.inRange) : (s.offerCueTo n c).InRange := by
  have hplaced := h.setCues n ((h.cues n).offerCue hc)
  unfold State.offerCueTo
  dsimp only
  split
  · exact hplaced.of_ranged (by simp)
  · exact hplaced

theorem State.InRange.takeCue (n : StripNo) {c : Cue} (hc : c.inRange) : (s.takeCue c n).InRange := by
  unfold State.takeCue
  split
  · split
    · exact (h.fireCue n hc).of_ranged (by simp)
    · split
      · exact h.fireCue n hc
      · exact h.offerCueTo n hc
  · exact h.offerCueTo n hc

theorem State.InRange.actCue (source : Member) (f : CueFields) : (s.actCue source f).InRange :=
  h.stripCommand _ _ _ fun n => h.takeCue n (formCue_inRange f)

theorem State.InRange.actCueFlush (source : Member) (strip : Byte) : (s.actCueFlush source strip).InRange :=
  h.stripsCommand _ _ _ fun n _ ht => ht.setCues n CuesInRange.nil

theorem State.InRange.fireCues (q : Position) : (s.fireCues q).InRange :=
  (h.mapStrips fun n => (h.strip n).firedAt s q (h.cues n).range).withCues fun n => by
    rw [Fin.getElem_fin, Vector.getElem_ofFn]
    exact (h.cues n).sublist (List.dropWhile_sublist _)

theorem State.InRange.stripsRoll : s.stripsRoll.InRange := h.mapStrips fun n => (h.strip n).startRoll

theorem State.InRange.stripsPark : s.stripsPark.InRange := h.mapStrips fun n => (h.strip n).parkStrip s

/-! ### Groups and faders (R33, R102 to R104, R139 to R142) -/

theorem State.InRange.applyDelta (g : GroupNo) (change : Int) : (s.applyDelta g change).InRange := by
  refine State.InRange.of_ranged (h.mapStrips fun n => ?_) (State.ranged_latchStrips ..)
  split
  · exact (h.strip n).withDelta s change
  · exact h.strip n

theorem State.InRange.takeDelta (g : GroupNo) (k : Key) (change : Int) : (s.takeDelta g k change).InRange := by
  unfold State.takeDelta
  split
  · exact (h.applyDelta g change).of_ranged (State.ranged_setGroup ..)
  · exact h.of_ranged (by simp)

theorem State.InRange.announced (source : Member) (group strip : Byte) {act : GroupNo → Key → State → State}
    (hact : ∀ g k, (act g k s).InRange) : (s.announced source group strip act).InRange := by
  unfold State.announced
  split
  · exact hact ..
  · exact h

theorem State.InRange.actGroupClaim (source : Member) (group strip : Byte) :
    (s.actGroupClaim source group strip).InRange :=
  h.announced _ _ _ fun g k => h.of_ranged (s.ranged_takeClaim g k)

theorem State.InRange.actGroupRelease (source : Member) (group strip : Byte) :
    (s.actGroupRelease source group strip).InRange :=
  h.announced _ _ _ fun g k => h.of_ranged (s.ranged_takeRelease g k)

theorem State.InRange.actGroupDelta (source : Member) (group strip : Byte) (change : BitVec 16) :
    (s.actGroupDelta source group strip change).InRange :=
  h.announced _ _ _ fun g k => h.takeDelta g k _

theorem State.InRange.touchOn (n : StripNo) : (s.touchOn n).InRange := by
  have hedged := h.setStrip n ((h.strip n).touchEdge s.clock.rolling)
  unfold State.touchOn
  dsimp only
  split
  · exact h
  · split
    · exact hedged.of_ranged (by simp)
    · exact hedged.of_ranged (by simp)

theorem State.InRange.touchOff (n : StripNo) : (s.touchOff n).InRange := by
  have hst := h.strip n
  have hedged := h.setStripEffective n (st := { s.strip n with touched := false }) { hst with }
    ⟨by have := hst.glide; omega, hst.glide.2⟩
  unfold State.touchOff
  dsimp only
  split
  · split
    · exact hedged.of_ranged (by simp)
    · exact hedged.of_ranged (by simp)
  · exact h

theorem State.InRange.actTouch (source : Member) (strip touched : Byte) : (s.actTouch source strip touched).InRange := by
  refine h.stripCommand _ _ _ fun n => ?_
  split
  · exact h.touchOn n
  · exact h.touchOff n

theorem State.InRange.handMove (n : StripNo) (change : Int) : (s.handMove n change).InRange := by
  unfold State.handMove
  split
  · split
    · exact (h.applyDelta _ change).of_ranged (State.ranged_announce ..)
    · exact h
  · exact h

theorem State.InRange.actFader (source : Member) (strip : Byte) (level : BitVec 16) :
    (s.actFader source strip level).InRange := by
  refine h.stripCommand _ _ _ fun n => ?_
  unfold State.moveFader
  split
  · exact h
  · have hmoved : ({ s.strip n with live := clampLevel level.toInt } : Strip).InRange :=
      { h.strip n with live := clampLevel_range _ }
    exact (h.setStripEffective n hmoved (by decide)).handMove n _

/-! ### Solo and the Census (R117 to R120, R125 to R131) -/

theorem State.InRange.judgeSolo : s.judgeSolo.InRange := by
  unfold State.judgeSolo
  split
  · exact h
  · exact State.InRange.retargetAll (s := { s with census.soloActive := s.soloWanted }) (h.of_ranged rfl) (by decide)

theorem State.InRange.soloChanged (n : StripNo) : (s.soloChanged n).InRange := by
  unfold State.soloChanged
  split
  · exact h.setRetargeted n (h.strip n) (by decide)
  · exact h.judgeSolo

theorem State.InRange.soloStrip (n : StripNo) : (s.soloStrip n).InRange := by
  unfold State.soloStrip
  split
  · exact h
  · refine State.InRange.soloChanged ?_ n
    exact (h.setStrip n (st := { s.strip n with soloed := true }) { h.strip n with }).of_ranged (State.ranged_announce ..)

theorem State.InRange.unsoloStrip (n : StripNo) : (s.unsoloStrip n).InRange := by
  unfold State.unsoloStrip
  split
  · refine State.InRange.soloChanged ?_ n
    exact (h.setStrip n (st := { s.strip n with soloed := false }) { h.strip n with }).of_ranged
      (State.ranged_announce ..)
  · exact h

theorem State.InRange.actSolo (source : Member) (strip state : Byte) : (s.actSolo source strip state).InRange := by
  refine h.stripsCommand _ _ _ fun n t ht => ?_
  split
  · exact ht.soloStrip n
  · exact ht.unsoloStrip n

theorem State.InRange.learnKey (k : Key) : (s.learnKey k).InRange :=
  State.InRange.judgeSolo (h.of_ranged (by simp))

theorem State.InRange.removeKey (k : Key) : (s.removeKey k).InRange :=
  State.InRange.judgeSolo (h.of_ranged (by simp))

theorem State.InRange.soloAnnounced (source : Member) (strip : Byte) {act : Key → State → State}
    (hact : ∀ k, (act k s).InRange) : (s.soloAnnounced source strip act).InRange := by
  unfold State.soloAnnounced
  split
  · exact hact _
  · exact h

theorem State.InRange.rotate : s.rotate.InRange := State.InRange.judgeSolo (h.of_ranged rfl)

theorem State.InRange.agingEvent : s.agingEvent.InRange := by
  have hrotated : s.rotateOrHold.InRange := by
    unfold State.rotateOrHold
    split
    · exact h.of_ranged rfl
    · exact h.rotate
  exact hrotated.of_ranged (by simp [State.agingEvent])

theorem State.InRange.restartAging : s.restartAging.InRange := State.InRange.agingEvent (h.of_ranged rfl)

theorem State.InRange.clearStep (i : Fin 128) : (s.clearStep i).InRange := by
  unfold State.clearStep
  dsimp only
  split
  · exact h.of_ranged rfl
  · unfold State.clearingDone
    split
    · exact State.InRange.rotate (h.of_ranged rfl)
    · exact h.of_ranged rfl

/-! ### Capture units (R148 to R159) -/

theorem State.InRange.releaseBinding (u : UnitNo) : (s.releaseBinding u).InRange := by
  unfold State.releaseBinding
  dsimp only
  split
  · rename_i n _
    exact (h.setUnit u _).setStrip n (st := { s.strip n with binding := none }) { h.strip n with }
  · exact h.setUnit u _

theorem State.InRange.finish (u : UnitNo) (q : Position) (flags condition : Byte) :
    (s.finish u q flags condition).InRange :=
  (h.setUnit u _).releaseBinding u

theorem State.InRange.sample (u : UnitNo) (q : Position) : (s.sample u q).InRange := by
  unfold State.sample
  dsimp only
  split
  · exact (h.setUnit u _).finish ..
  · split <;> exact h.setUnit u _

theorem State.InRange.enterWriting (u : UnitNo) (q : Position) : (s.enterWriting u q).InRange :=
  (h.setUnit u _).sample u q

theorem State.InRange.unitPosition (q : Position) (u : UnitNo) : (s.unitPosition q u).InRange := by
  unfold State.unitPosition
  split
  · split
    · exact h.enterWriting u q
    · exact h
  · exact h.sample u q
  · split
    · exact h.finish ..
    · exact h
  all_goals exact h

theorem State.InRange.unitEnd (q : Position) (condition : Byte) (u : UnitNo) : (s.unitEnd q condition u).InRange := by
  unfold State.unitEnd
  split
  case h_1 | h_2 => exact h.finish ..
  all_goals exact h

theorem State.InRange.endEmpty (u : UnitNo) (conditions : Byte) : (s.endEmpty u conditions).InRange :=
  State.InRange.of_ranged ((h.setUnit u _).releaseBinding u) (State.ranged_endDrain ..)

theorem State.InRange.startArmed (u : UnitNo) (settings : CaptureSettings) : (s.startArmed u settings).InRange := by
  have harmed := (h.setUnit u { (s.captureUnit u).prepared settings with
    state := .armed, bound := some settings.strip }).setStrip settings.strip
    (st := { s.strip settings.strip with binding := some u }) { h.strip settings.strip with }
  unfold State.startArmed
  dsimp only
  split
  · exact harmed.enterWriting ..
  · exact harmed

theorem State.InRange.actCaptureStart (source : Member) (f : CaptureStartFields) :
    (s.actCaptureStart source f).InRange := by
  unfold State.actCaptureStart
  split
  · split
    · exact h.refuse ..
    · split
      · exact h.refuse ..
      · split
        · exact h.of_ranged (State.ranged_endDrain ..)
        · exact h.startArmed ..
  · exact h.refuse ..

theorem State.InRange.stopUnit (source : Member) (unit : Byte) (u : UnitNo) : (s.stopUnit source unit u).InRange := by
  unfold State.stopUnit
  split
  case h_1 | h_2 => exact h.finish ..
  case h_3 => exact h.endEmpty ..
  all_goals exact h.refuse ..

theorem State.InRange.suspendUnit (source : Member) (unit : Byte) (u : UnitNo) :
    (s.suspendUnit source unit u).InRange := by
  unfold State.suspendUnit
  split
  · exact h.setUnit u _
  · exact h.refuse ..

theorem State.InRange.resumeUnit (source : Member) (unit : Byte) (u : UnitNo) :
    (s.resumeUnit source unit u).InRange := by
  unfold State.resumeUnit
  split
  · exact h.setUnit u _
  · exact h.refuse ..

theorem State.InRange.clearUnit (u : UnitNo) : (s.clearUnit u).InRange := by
  unfold State.clearUnit
  split
  case h_1 | h_2 | h_3 => exact h.endEmpty ..
  · exact (h.setUnit u _).releaseBinding u
  · exact h.setUnit u _
  · exact h

/-! ### Outputs, reports and queries (R74, R98, R162, R166) -/

theorem State.InRange.actOutputSet (source : Member) (f : OutputSetFields) : (s.actOutputSet source f).InRange := by
  unfold State.actOutputSet
  split
  · exact h.of_ranged rfl
  · split
    · exact h.refuse ..
    · split
      · exact h.of_ranged rfl
      · exact h.refuse ..

theorem State.InRange.stripMeter (b : Nat) : (s.stripMeter b).InRange := by
  unfold State.stripMeter
  split
  · refine State.InRange.mapStrips (h.of_ranged (State.ranged_offer ..)) fun n => ?_
    rw [State.strip_offer]
    split
    · exact { h.strip n with peak := Nat.zero_le _ }
    · exact h.strip n
  · exact h

theorem State.InRange.meterReports : s.meterReports.InRange :=
  (h.foldl (fun _ b ht => ht.stripMeter b) _).of_ranged (State.ranged_foldl State.ranged_anchorMeter ..)

theorem State.InRange.answer (source : Member) (item : QueryItem) (object : Byte) (shares : List ReplyShare)
    {after : State → State} (hafter : ∀ t, (after t).ranged = t.ranged) :
    (s.answer source item object shares after).InRange :=
  h.of_ranged (State.ranged_answer _ _ _ _ _ hafter)

theorem State.InRange.actQueryStrip (source : Member) (object : Byte) : (s.actQueryStrip source object).InRange := by
  unfold State.actQueryStrip
  split
  · exact h.answer _ _ _ _ fun _ => rfl
  · exact h.refuse ..

theorem State.InRange.actQueryCues (source : Member) (object : Byte) : (s.actQueryCues source object).InRange := by
  unfold State.actQueryCues
  split
  · exact h.answer _ _ _ _ fun _ => rfl
  · exact h.refuse ..

theorem State.InRange.actQueryCensus (source : Member) (object : Byte) : (s.actQueryCensus source object).InRange :=
  h.answer _ _ _ _ fun _ => rfl

theorem State.InRange.actQueryGroup (source : Member) (object : Byte) : (s.actQueryGroup source object).InRange := by
  unfold State.actQueryGroup
  split
  · exact h.answer _ _ _ _ fun _ => rfl
  · exact h.refuse ..

theorem State.InRange.actQueryCapture (source : Member) (object : Byte) :
    (s.actQueryCapture source object).InRange := by
  unfold State.actQueryCapture
  split
  · exact h.answer _ _ _ _ fun _ => rfl
  · exact h.refuse ..

theorem State.InRange.actQueryAnchor (source : Member) (object : Byte) : (s.actQueryAnchor source object).InRange := by
  unfold State.actQueryAnchor
  split
  · exact h.answer _ _ _ _ fun _ => rfl
  · exact h.refuse ..

theorem State.InRange.actQueryCounters (source : Member) (object clear : Byte) :
    (s.actQueryCounters source object clear).InRange := by
  refine h.answer _ _ _ _ fun t => ?_
  split <;> rfl

/-! ### Clock, profile and samples (R54 to R61, R168 to R173) -/

theorem State.InRange.profileTaken {l : ProfileLoad} (hl : 48 ≤ l.profile.glide ∧ l.profile.glide ≤ 48000) :
    (s.profileTaken l).InRange := by
  have hmapped : (s.mapStrips fun _ st => { st with glide := l.profile.glide }).InRange :=
    h.mapStrips fun n => { h.strip n with glide := hl }
  have hloaded := hmapped.withClock (c := { s.clock with profile := l.profile }) hl
  refine hloaded.of_ranged ?_
  rw [State.profileTaken, State.ranged_foldl fun _ _ => State.ranged_latchNode ..]
  simp [State.ranged]

theorem State.InRange.nodeReset : s.nodeReset.InRange where
  strip n := by
    have : s.nodeReset.strip n = Strip.reset s.clock.profile.glide := by
      simp [State.strip, State.nodeReset, StripEngine.reset]
    rw [this]
    exact Strip.reset_inRange h.glide
  cues n := h.emptyCues.cues n
  glide := h.glide
  sums := LaneAdder.zero_sound

theorem State.InRange.loseLock : s.loseLock.InRange := (h.withAdder LaneAdder.zero_sound).of_ranged rfl

theorem State.InRange.begun : s.begun.InRange := by
  unfold State.begun
  split
  · exact h
  · exact (h.withAdder h.sums.advance).of_ranged rfl

/-- R60: the sums of the 32 strips. -/
theorem State.InRange.laneSums (samples : List Sample) (j : LaneNo) : contributionInRange (s.laneSums samples)[j] := by
  simp only [State.laneSums, Fin.getElem_fin, Vector.getElem_ofFn]
  have hterm : ∀ n : StripNo, ∀ x, x = (s.strip n).stepped.contribution
      ((s.strip n).stepped.product (s.inputSample samples n)) j → -33395650 ≤ x ∧ x ≤ 33395650 := by
    rintro n x rfl
    obtain ⟨-, hlanes, hcoef⟩ := (h.strip n).placement
    exact sum_taps_range ((h.strip n).product (s.inputSample_range samples n)) hlanes hcoef
  constructor
  · have := List.card_nsmul_le_sum (allStrips.map fun n => (s.strip n).stepped.contribution
      ((s.strip n).stepped.product (s.inputSample samples n)) j) (-33395650) fun x hx => by
        obtain ⟨n, -, rfl⟩ := List.mem_map.mp hx
        exact (hterm n _ rfl).1
    simpa [allStrips] using this
  · have := List.sum_le_card_nsmul (allStrips.map fun n => (s.strip n).stepped.contribution
      ((s.strip n).stepped.product (s.inputSample samples n)) j) 33395650 fun x hx => by
        obtain ⟨n, -, rfl⟩ := List.mem_map.mp hx
        exact (hterm n _ rfl).2
    simpa [allStrips] using this

theorem State.InRange.processSamples (samples : List Sample) : (s.processSamples samples).InRange := by
  have hmapped : (s.mapStrips fun n st => s.processed (s.inputSample samples n) st).InRange :=
    h.mapStrips fun n => (h.strip n).processed s (s.inputSample_range samples n)
  have hsums : ({ s.adder with handed := s.laneSums samples } : LaneAdder).Sound := ⟨h.sums.1, h.laneSums samples⟩
  exact (hmapped.withAdder hsums).of_ranged (by simp [State.processSamples, State.ranged])

theorem State.InRange.unitsEnd (q : Position) (condition : Byte) : (s.unitsEnd q condition).InRange :=
  h.foldl (fun _ u ht => ht.unitEnd q condition u) _

theorem State.InRange.unitsPosition (q : Position) : (s.unitsPosition q).InRange :=
  h.foldl (fun _ u ht => ht.unitPosition q u) _

theorem State.InRange.transportChange (rolling unitsFirst : Bool) :
    (s.transportChange rolling unitsFirst).InRange := by
  unfold State.transportChange
  split
  · exact h
  · split
    · exact h.stripsRoll
    · unfold State.parkIn
      split
      · exact (h.unitsEnd ..).stripsPark
      · exact h.stripsPark.unitsEnd ..

theorem State.InRange.positionEvent (q : Position) (rolling unitsFirst : Bool) :
    (s.positionEvent q rolling unitsFirst).InRange := by
  unfold State.positionEvent
  split
  · split
    · exact h.emptyCues.unitsEnd ..
    · unfold State.positionIn
      split
      · exact (h.unitsPosition q).fireCues q
      · exact (h.fireCues q).unitsPosition q
  · exact h

theorem State.InRange.takeReference (position : Position) (rolling valid : Bool) :
    (s.takeReference position rolling valid).InRange := by
  have hfaulted : (if valid then s else s.latchNode .positionFault).InRange := by
    split
    · exact h
    · exact h.of_ranged (by simp)
  exact ((hfaulted.transportChange ..).positionEvent ..).of_ranged rfl

theorem State.InRange.openPeriod : s.openPeriod.InRange := h.of_ranged s.ranged_openPeriod

theorem State.InRange.gainLock : s.gainLock.InRange := h.of_ranged rfl

theorem State.InRange.lockEdge : s.lockEdge.InRange := by
  unfold State.lockEdge
  split
  · exact h.of_ranged rfl
  · exact h.gainLock

/-! ### Messages by their kind (R84, R85, R98) -/

theorem State.InRange.actQuery (source : Member) (item object clear : Byte) :
    (s.actQuery source item object clear).InRange := by
  unfold State.actQuery
  split
  · exact h.actQueryStrip ..
  · exact h.actQueryCues ..
  · exact h.actQueryCensus ..
  · exact h.actQueryGroup ..
  · exact h.actQueryCapture ..
  · exact h.actQueryAnchor ..
  · exact h.actQueryCounters ..
  · exact h.refuse ..

theorem State.InRange.act (kind : Byte) (source : Member) (p : List Byte) : (s.act kind source p).InRange := by
  unfold State.act
  split
  · exact h.actStripSet ..
  · exact h.actPlace ..
  · exact h.actCue ..
  · exact h.actCueFlush ..
  · exact h.actTouch ..
  · exact h.actFader ..
  · exact h.actSolo ..
  · exact h.actMuteGroup ..
  · exact h.actCaptureStart ..
  · exact h.unitCommand _ _ _ (h.stopUnit source _)
  · exact h.unitCommand _ _ _ (h.suspendUnit source _)
  · exact h.unitCommand _ _ _ (h.resumeUnit source _)
  · exact h.unitCommand _ _ _ h.clearUnit
  · exact h.actOutputSet ..
  · exact h.actQuery ..
  · exact h.of_ranged rfl
  · exact h.restartAging
  · exact h.nodeReset
  · exact h.actGroupClaim ..
  · exact h.actGroupRelease ..
  · exact h.actGroupDelta ..
  · exact h.soloAnnounced _ _ h.learnKey
  · exact h.soloAnnounced _ _ h.learnKey
  · exact h.soloAnnounced _ _ h.removeKey
  · exact h

theorem State.InRange.takeSlot (c : SlotCase) : (s.takeSlot c).InRange := by
  unfold State.takeSlot
  split
  · exact h
  · split
    · exact h.of_ranged (by simp)
    · exact h
  · exact h.of_ranged (by simp)
  · split
    · exact h.act ..
    · exact h

theorem State.InRange.goodArrival (bytes : List Byte) : (s.goodArrival bytes).InRange := by
  have htaken := (h.of_ranged (s.ranged_placeArrival bytes)).takeSlot (classify s.clock.member (frameSlot bytes))
  unfold State.goodArrival
  dsimp only
  split
  · exact htaken.of_ranged (by simp)
  · exact htaken

theorem State.InRange.arrival (bytes : List Byte) : (s.arrival bytes).InRange := by
  unfold State.arrival
  split
  · exact h.of_ranged (by simp)
  · split
    · exact h.goodArrival bytes
    · exact h.of_ranged rfl

end

end Sys2Proof.Machine
end

section
/-! O53: every command keeps the ranges of strip records, cue lists and contributions. -/

namespace Sys2Proof.Machine

open Sys2Proof

theorem State.InRange.begun_emit {s : State} (h : s.InRange) : s.begun.emit.InRange :=
  h.begun.of_ranged s.begun.ranged_emit

theorem execWordClockEdge_inRange {s : State} (h : s.InRange) (e : Edge) :
    ∃ t, execWordClockEdge e s = .next t ∧ t.InRange := by
  refine ⟨_, rfl, ?_⟩
  split
  case h_1 | h_2 => exact h
  · exact h.lockEdge
  case h_4 | h_5 => exact h.of_ranged rfl
  case h_6 | h_7 => exact (h.begun.of_ranged (State.ranged_closePeriod _)).openPeriod
  all_goals exact h.loseLock

theorem execScannerVisit_inRange {s : State} (h : s.InRange) : ∃ t, execScannerVisit s = .next t ∧ t.InRange :=
  ⟨_, rfl, h.ite ((h.of_ranged (s.ranged_visit _)).of_ranged rfl)⟩

theorem execRefreshWalkTurn_inRange {s : State} (h : s.InRange) : ∃ t, execRefreshWalkTurn s = .next t ∧ t.InRange := by
  have hturned : ({ s with clock.taken.walked := true } : State).InRange := h.of_ranged rfl
  exact ⟨_, rfl, h.ite (hturned.ite (hturned.of_ranged (State.ranged_takeMark _)))⟩

theorem execMeterEvent_inRange {s : State} (h : s.InRange) : ∃ t, execMeterEvent s = .next t ∧ t.InRange := by
  have hrestarted : ({ s with reports.meterCount := 0 } : State).InRange := h.of_ranged rfl
  exact ⟨_, rfl, h.ite (hrestarted.ite hrestarted.meterReports)⟩

theorem execCensusClearing_inRange {s : State} (h : s.InRange) : ∃ t, execCensusClearing s = .next t ∧ t.InRange := by
  refine ⟨_, rfl, ?_⟩
  split
  · exact h.ite (h.clearStep _)
  · exact h

/-- R169: the profile taken, read or default, has its default glide in range. -/
theorem loadProfile_glide (memory : Option (List Byte)) :
    48 ≤ (loadProfile memory).profile.glide ∧ (loadProfile memory).profile.glide ≤ 48000 := by
  unfold loadProfile
  split
  · split
    · exact clampNat_range (by decide) _
    · decide
  · decide

/-- Every command answers a state that keeps the ranges. -/
theorem exec_inRange {s : State} (h : s.InRange) (c : Instr) : ∃ t, exec c s = .next t ∧ t.InRange := by
  cases c with
  | powerReset => exact ⟨_, rfl, State.reset_inRange.of_ranged rfl⟩
  | powerResetRelease straps => exact ⟨_, rfl, h.ite (State.reset_inRange.of_ranged rfl)⟩
  | profileReadEnd memory => exact ⟨_, rfl, h.ite (h.profileTaken (loadProfile_glide memory))⟩
  | lockGained => exact ⟨_, rfl, h.ite h.gainLock⟩
  | lossOfLock => exact ⟨_, rfl, h.ite h.loseLock⟩
  | joining frame => exact ⟨_, rfl, h.ite (h.arrival frame)⟩
  | quietWindowEnd => exact ⟨_, rfl, h.ite (h.of_ranged rfl)⟩
  | frameArrival frame => exact ⟨_, rfl, h.ite (h.arrival frame)⟩
  | frameEmission => exact ⟨_, rfl, h.ite h.begun_emit⟩
  | faultBegun anchor => exact ⟨_, rfl, h.ite h.begun_emit⟩
  | runCompleted anchor => exact ⟨_, rfl, h.ite h.begun_emit⟩
  | realignSwitch anchor => exact ⟨_, rfl, h.ite (h.of_ranged s.ranged_processOutputs)⟩
  | enterRunning anchor => exact ⟨_, rfl, h.ite (h.of_ranged s.ranged_processOutputs)⟩
  | insertion => exact ⟨_, rfl, h.of_ranged s.ranged_insert⟩
  | inflightTimeout => exact ⟨_, rfl, h.of_ranged s.ranged_timeoutEntries⟩
  | historyAdvance => exact ⟨_, rfl, h.ite h.begun⟩
  | sampleProcessing samples => exact ⟨_, rfl, h.ite (h.begun.processSamples samples)⟩
  | swapCompletion strip samples => exact ⟨_, rfl, h.ite (h.begun.processSamples samples)⟩
  | outputProcessing => exact ⟨_, rfl, h.ite (h.of_ranged s.ranged_processOutputs)⟩
  | referenceEvent position rolling valid => exact ⟨_, rfl, h.ite (h.takeReference ..)⟩
  | keepalive unit position => exact ⟨_, rfl, h.ite (h.takeReference ..)⟩
  | packingTurn unit => exact ⟨_, rfl, h.ite (h.of_ranged (s.ranged_packingTurn unit))⟩
  | drainEnd unit => exact ⟨_, rfl, h.ite (h.of_ranged (s.ranged_packingTurn unit))⟩
  | heldEndOffer unit => exact ⟨_, rfl, h.ite (h.of_ranged (s.ranged_packingTurn unit))⟩
  | agingEvent => exact ⟨_, rfl, h.ite h.restartAging⟩
  | leadLapse group => exact ⟨_, rfl, h.ite h.restartAging⟩
  | censusClearing => exact execCensusClearing_inRange h
  | clearingComplete => exact ⟨_, rfl, h.ite (h.clearStep 127)⟩
  | refreshWalkTurn => exact execRefreshWalkTurn_inRange h
  | meterEvent => exact execMeterEvent_inRange h
  | scannerVisit => exact execScannerVisit_inRange h
  | inputFramingLost port =>
    exact ⟨_, rfl, h.ite (h.of_ranged ((State.ranged_latchNode ..).trans (s.ranged_setPort port false)))⟩
  | inputFramingGained port => exact ⟨_, rfl, h.ite (h.of_ranged (s.ranged_setPort port true))⟩
  | stripSet source fields => exact ⟨_, rfl, h.whenActing source (h.actStripSet source fields)⟩
  | place source fields => exact ⟨_, rfl, h.whenActing source (h.actPlace source fields)⟩
  | muteGroup source group state => exact ⟨_, rfl, h.whenActing source (h.actMuteGroup source group state)⟩
  | cue source fields => exact ⟨_, rfl, h.whenActing source (h.actCue source fields)⟩
  | cueFlush source strip => exact ⟨_, rfl, h.whenActing source (h.actCueFlush source strip)⟩
  | touch source strip touched => exact ⟨_, rfl, h.whenActing source (h.actTouch source strip touched)⟩
  | fader source strip level => exact ⟨_, rfl, h.whenActing source (h.actFader source strip level)⟩
  | solo source strip state => exact ⟨_, rfl, h.whenActing source (h.actSolo source strip state)⟩
  | soloOn source strip => exact ⟨_, rfl, h.whenActing source (h.soloAnnounced source strip h.learnKey)⟩
  | soloRefresh source strip => exact ⟨_, rfl, h.whenActing source (h.soloAnnounced source strip h.learnKey)⟩
  | soloOff source strip => exact ⟨_, rfl, h.whenActing source (h.soloAnnounced source strip h.removeKey)⟩
  | censusSweep source => exact ⟨_, rfl, h.whenActing source h.restartAging⟩
  | groupClaim source group strip => exact ⟨_, rfl, h.whenActing source (h.actGroupClaim source group strip)⟩
  | groupRelease source group strip => exact ⟨_, rfl, h.whenActing source (h.actGroupRelease source group strip)⟩
  | groupDelta source group strip change =>
    exact ⟨_, rfl, h.whenActing source (h.actGroupDelta source group strip change)⟩
  | captureStart source fields => exact ⟨_, rfl, h.whenActing source (h.actCaptureStart source fields)⟩
  | captureStop source unit =>
    exact ⟨_, rfl, h.whenActing source (h.unitCommand source _ unit (h.stopUnit source unit))⟩
  | captureSuspend source unit =>
    exact ⟨_, rfl, h.whenActing source (h.unitCommand source _ unit (h.suspendUnit source unit))⟩
  | captureResume source unit =>
    exact ⟨_, rfl, h.whenActing source (h.unitCommand source _ unit (h.resumeUnit source unit))⟩
  | captureClear source unit => exact ⟨_, rfl, h.whenActing source (h.unitCommand source _ unit h.clearUnit)⟩
  | outputSet source fields => exact ⟨_, rfl, h.whenActing source (h.actOutputSet source fields)⟩
  | reportControl source fields => exact ⟨_, rfl, h.whenActing source (h.of_ranged rfl)⟩
  | queryStrip source object clear => exact ⟨_, rfl, h.whenActing source (h.actQueryStrip source object)⟩
  | queryCues source object clear => exact ⟨_, rfl, h.whenActing source (h.actQueryCues source object)⟩
  | queryCensus source object clear => exact ⟨_, rfl, h.whenActing source (h.actQueryCensus source object)⟩
  | queryGroup source object clear => exact ⟨_, rfl, h.whenActing source (h.actQueryGroup source object)⟩
  | queryCapture source object clear => exact ⟨_, rfl, h.whenActing source (h.actQueryCapture source object)⟩
  | queryAnchor source object clear => exact ⟨_, rfl, h.whenActing source (h.actQueryAnchor source object)⟩
  | queryCounters source object clear =>
    exact ⟨_, rfl, h.whenActing source (h.actQueryCounters source object clear)⟩
  | nodeReset source => exact ⟨_, rfl, h.whenActing source h.nodeReset⟩
  | wordClockEdge edge => exact execWordClockEdge_inRange h edge

/-- A step keeps the ranges: it runs a command, or idles. -/
theorem step_inRange {s t : State} (h : s.InRange) (e : step s = .next t) : t.InRange := by
  unfold step at e
  split at e
  · cases e
    exact h
  · rename_i c rest _
    obtain ⟨t', e', ht⟩ := exec_inRange (s := { s with pending := rest }) (h.of_ranged rfl) c
    rw [e'] at e
    cases e
    exact ht

/-- Settles O53: the ranges of a strip record, a cue list and a contribution are kept operation by operation, and every command is
made of those operations. -/
theorem everyStepKeepsStripsCuesAndSumsInRange : Obligations.EveryStepKeepsStripsCuesAndSumsInRange :=
  fun s t hstrips hcues hsums e =>
    t.inRange_iff.mp (step_inRange (s.inRange_iff.mpr ⟨hstrips, hcues, hsums⟩) e)

end Sys2Proof.Machine
end

section
/-! O3, O10, O11, O12, O13 and O28: the state after power reset, the edge between two periods, and frames in. -/

namespace Sys2Proof.Machine

open Sys2Proof

/-! ### Start states and the start of a period -/

theorem State.periodsPass_iff (s : State) : s.periodsPass = true ↔ s.clock.start = .passing ∨ s.clock.start = .joined := by
  simp [State.periodsPass]

@[simp] theorem State.begun_periodsPass (s : State) : s.begun.periodsPass = s.periodsPass := by simp [State.periodsPass]

@[simp] theorem LaneAdder.advance_history_zero (a : LaneAdder) : a.advance.history[(0 : Fin 31)] = a.handed := by
  simp [LaneAdder.advance]

@[simp] theorem LaneAdder.advance_history_succ (a : LaneAdder) (d : Fin 30) :
    a.advance.history[d.val + 1] = a.history[d.val] := by
  simp [LaneAdder.advance]

@[simp] theorem LaneAdder.advance_handed (a : LaneAdder) (j : LaneNo) : a.advance.handed[j] = 0 := by
  simp [LaneAdder.advance, zeroRow]

/-- HISTORY_ADVANCE answers the state that has begun its period's work. -/
theorem exec_historyAdvance {s : State} (h : s.clock.start = .passing ∨ s.clock.start = .joined) :
    exec .historyAdvance s = .next s.begun :=
  execHistoryAdvance_of_passes (s.periodsPass_iff.mpr h)

/-- Settles O28: HISTORY_ADVANCE is `State.begun`, which every later step of the period takes first and which, once taken, is
taken no more. -/
theorem historyAdvanceMovesEveryEntryDeeper : Obligations.HistoryAdvanceMovesEveryEntryDeeper := by
  intro s hs
  rw [exec_historyAdvance hs]
  refine ⟨fun h => ?_, fun h => ?_, ?_⟩
  · rw [State.begun_of_advanced h]
  · refine ⟨_, rfl, by rw [State.begun_eq], ?_⟩
    have hadder : s.begun.adder = s.adder.advance := by simp [State.begun_eq, h]
    rw [hadder]
    refine ⟨fun j => ?_, fun d j => ?_, fun j => ?_⟩
    · rw [LaneAdder.advance_history_zero]
    · rw [LaneAdder.advance_history_succ]
    · exact LaneAdder.advance_handed ..
  · rintro a ⟨⟩
    refine ⟨?_, fun hopen => ?_, fun hopen samples => ?_⟩
    · show execWordClockEdge _ s = execWordClockEdge _ s.begun
      rcases hs with hs | hs <;> simp [execWordClockEdge, hs]
    · show execFrameEmission s = execFrameEmission s.begun
      simp [execFrameEmission, State.emissionOpen, s.periodsPass_iff.mpr hs, hopen]
    · show execSampleProcessing samples s = execSampleProcessing samples s.begun
      simp [execSampleProcessing, State.samplingOpen, s.periodsPass_iff.mpr hs, hopen]

/-- What the close of a period counts (R7, R171). -/
theorem State.closePeriod_eq (s : State) : s.closePeriod = { s with
    clock.goodArrivals :=
      if s.clock.start = .passing ∧ s.port.current = .awaiting then 0 else s.clock.goodArrivals
    message.counters.missing :=
      if s.port.current = .awaiting then min 65535 (s.message.counters.missing + 1) else s.message.counters.missing } := by
  unfold State.closePeriod
  by_cases h : s.port.current = .awaiting
  · simp only [h, and_true, if_true]
    rfl
  · simp only [h, and_false, if_false]

/-- Settles O10: the edge within the window takes the advance, closes the period and opens the next. -/
theorem edgeClosesAPeriodAndOpensTheNext : Obligations.EdgeClosesAPeriodAndOpensTheNext := by
  intro s hs
  refine ⟨s.begun, exec_historyAdvance hs, ?_⟩
  have hedge : exec (.wordClockEdge .within) s = .next s.begun.closePeriod.openPeriod := by
    show execWordClockEdge _ s = _
    rcases hs with hs | hs <;> simp [execWordClockEdge, hs]
  rw [hedge, State.closePeriod_eq, State.begun_eq]
  rfl

/-! ### The state after power reset -/

/-- Settles O3, each value read off the reset values of its block. -/
theorem resetLeavesTheSpecValues : Obligations.ResetLeavesTheSpecValues := by
  refine ⟨rfl, rfl, rfl, rfl, rfl, fun p => ?_, rfl, fun d j => ?_, fun n => ?_, rfl, fun n => ?_, rfl, rfl, fun i k => ?_,
    fun i => ?_, rfl, rfl, rfl, fun n => ?_, rfl, rfl, fun g => ?_, fun u => ?_, rfl, rfl, rfl, rfl, fun src => ?_⟩
  · simp [State.reset, Clock.powerReset]
  · simp [State.reset, LaneAdder.zero, zeroRow]
  · simp [State.strip, State.reset, StripEngine.reset, Strip.reset, Profile.default, Ramp.rest]
  · simp [State.cueList, State.reset, noCues]
  · simp [State.table, State.reset, Census.reset, CensusTable.vacant]
  · simp [State.table, State.reset, Census.reset, CensusTable.vacant]
  · simp [State.reset, Census.reset]
  · simp [State.group, State.reset, groupsReset, GroupEntry.reset]
  · simp [State.captureUnit, State.reset, unitsReset, CaptureUnit.reset, CaptureSettings.zero]
  · simp [State.reset, Reports.reset, EventVector.empty]

/-! ### Classification of a slot (R82) -/

theorem memberOf_eq_some_iff {b : Byte} {m : Member} : memberOf b = some m ↔ b = memberByte m := by
  constructor
  · intro h
    unfold memberOf at h
    split at h
    · cases h
      simp [memberByte]
    · cases h
  · rintro rfl
    exact memberOf_memberByte m

/-- R82 case 3: a source that is no member, or another member's message with the hop count used up. -/
theorem classify_stray {member : Member} {m : Message} (hown : m.source ≠ memberByte member)
    (h : 16 ≤ m.source.toNat ∨ 15 ≤ m.hop.toNat) : classify member (some m) = .stray m := by
  unfold classify
  dsimp only
  cases hsrc : memberOf m.source with
  | none => rfl
  | some src =>
    have hne : src ≠ member := fun e => hown (e ▸ memberOf_eq_some_iff.mp hsrc)
    have hmember : m.source.toNat < 16 := by
      by_contra hge
      rw [memberOf_eq_none (by omega)] at hsrc
      cases hsrc
    have hhop : 15 ≤ m.hop.toNat := by omega
    simp only [if_neg hne, if_pos hhop]

/-- R82 case 4: any other message of another member. -/
theorem classify_other {member : Member} {m : Message} (hown : m.source ≠ memberByte member)
    (hsource : m.source.toNat < 16) (hhop : m.hop.toNat < 15) :
    classify member (some m) = .other ⟨m.source.toNat, hsource⟩ m := by
  have hsrc : memberOf m.source = some ⟨m.source.toNat, hsource⟩ := memberOf_eq_some rfl
  have hne : (⟨m.source.toNat, hsource⟩ : Member) ≠ member := fun e => hown (e ▸ memberOf_eq_some_iff.mp hsrc)
  simp [classify, hsrc, hne, hhop]

/-! ### Arrivals (R3 to R7) -/

/-- A frame in a period that passes is judged as the period's arrival. -/
theorem exec_frameArrival {s : State} {bytes : List Byte} (hpass : s.periodsPass = true) (hframe : isFrame bytes = true) :
    exec (.frameArrival bytes) s = .next (s.arrival bytes) := by
  show execFrameArrival bytes s = _
  simp [execFrameArrival, State.hears, hpass, hframe]

/-- Settles O11: a period that has its arrival only counts another. -/
theorem surplusArrivalIsOnlyCounted : Obligations.SurplusArrivalIsOnlyCounted := by
  intro bytes s hpass hcurrent hframe
  rw [exec_frameArrival hpass hframe, State.arrival, if_pos hcurrent]
  rfl

/-- Settles O12: a frame that fails its check leaves the period without a usable arrival. -/
theorem badArrivalIsMissing : Obligations.BadArrivalIsMissing := by
  intro bytes s hpass
  constructor
  · intro hframe
    show execFrameArrival bytes s = _
    simp [execFrameArrival, State.hears, hframe]
  · intro hcurrent hframe hgood
    rw [exec_frameArrival hpass hframe, State.arrival, if_neg (not_not.mpr hcurrent), if_neg (by simp [hgood])]
    rfl

/-- A good arrival while JOINED is placed in the hop buffer, and its slot is taken. -/
theorem exec_frameArrival_joined {s : State} {bytes : List Byte} (h : s.AwaitsGood bytes) (hj : s.clock.start = .joined) :
    exec (.frameArrival bytes) s =
      .next ((s.placeArrival bytes).takeSlot (classify s.clock.member (frameSlot bytes))) := by
  obtain ⟨hpass, hcurrent, hframe, hgood⟩ := h
  rw [exec_frameArrival hpass hframe, State.arrival, if_neg (not_not.mpr hcurrent), if_pos hgood, State.goodArrival]
  simp [hj]

/-- The hop buffer after an arrival, by the class of its slot. -/
theorem State.placeArrival_eq (s : State) {bytes : List Byte} {c : SlotCase}
    (h : classify s.clock.member (frameSlot bytes) = c) : s.placeArrival bytes = s.placed c.emission c.offered bytes := by
  subst h
  rfl

/-- Settles O13, by the class of the slot: empty, a stray, or another member's message that is not accepted. -/
theorem joinedArrivalThatActsOnNothing : Obligations.JoinedArrivalThatActsOnNothing := by
  intro bytes s hawaits hj
  rw [exec_frameArrival_joined hawaits hj]
  constructor
  · intro hslot
    have hclass : classify s.clock.member (frameSlot bytes) = .empty := by rw [hslot]; rfl
    rw [s.placeArrival_eq hclass, hclass]
    rfl
  · intro m hslot hown
    constructor
    · intro hstray
      have hclass : classify s.clock.member (frameSlot bytes) = .stray m := by rw [hslot, classify_stray hown hstray]
      rw [s.placeArrival_eq hclass, hclass]
      rfl
    · intro hsource hhop haccepts
      have hclass := classify_other (member := s.clock.member) hown hsource hhop
      rw [← hslot] at hclass
      have hrefuses : (s.placed (some m.forwarded) false bytes).accepts m.dest = false := haccepts
      rw [s.placeArrival_eq hclass, hclass]
      simp only [SlotCase.emission, SlotCase.offered, State.takeSlot, hrefuses, Bool.and_false]
      rfl

end Sys2Proof.Machine
end

section
/-! O21 and O22: the frame a node emits, and what its emission hands over. -/

namespace Sys2Proof.Machine

open Sys2Proof

/-! ### One lane (R8, R12, R17, R21) -/

theorem State.emission_lane (s : State) (j : LaneNo) : s.emission.lanes[j] = s.emittedLane j := by
  simp [State.emission]

theorem State.anchors_iff (s : State) (j : LaneNo) : s.anchors j = true ↔ ∃ a ∈ s.outputs.anchors, a.lane = j := by
  simp [State.anchors]

theorem State.joined_of_start {s : State} (h : s.clock.start = .joined) : s.joined = true := by simp [State.joined, h]

/-- R12 case 1: an anchored lane restarts. -/
theorem State.emittedLane_anchored {s : State} (hj : s.clock.start = .joined) {j : LaneNo}
    (h : ∃ a ∈ s.outputs.anchors, a.lane = j) : s.emittedLane j = .live 0 s.adder.history[(0 : Fin 31)][j] := by
  unfold State.emittedLane
  rw [if_pos (by rw [s.joined_of_start hj, (s.anchors_iff j).mpr h]; rfl)]
  rfl

/-- R8: without an arrival a lane that is not anchored leaves ORPHAN. -/
theorem State.emittedLane_missing {s : State} {j : LaneNo} (hfree : (s.joined && s.anchors j) = false)
    (hdue : s.port.due = none) : s.emittedLane j = .orphan := by
  simp [State.emittedLane, hfree, hdue]

/-- R12 cases 2 and 3: a lane of a good arrival that is not anchored, while JOINED. -/
theorem State.emittedLane_joined {s : State} (hj : s.clock.start = .joined) {j : LaneNo} {e : HopEntry}
    (hfree : s.anchors j = false) (hdue : s.port.due = some e) : s.emittedLane j = s.addLane e.lanes[j] j := by
  simp [State.emittedLane, s.joined_of_start hj, hfree, hdue]

/-- R21: a lane of a good arrival while PASSING. -/
theorem State.emittedLane_passing {s : State} (hp : s.clock.start = .passing) {j : LaneNo} {e : HopEntry}
    (hdue : s.port.due = some e) : s.emittedLane j = passLane e.lanes[j] := by
  simp [State.emittedLane, State.joined, hp, hdue]

@[simp] theorem State.addLane_orphan (s : State) (j : LaneNo) : s.addLane .orphan j = .orphan := rfl

@[simp] theorem State.addLane_oldest (s : State) (j : LaneNo) (value : Int) : s.addLane (.live 15 value) j = .orphan := rfl

/-- R12 case 3, R17: a live lane below age 15 ages, and takes this node's contribution. -/
theorem State.addLane_live (s : State) (j : LaneNo) {age : Fin 16} (value : Int) (h : age.val < 15) :
    s.addLane (.live age value) j = .live ⟨age.val + 1, by omega⟩ (max (-2147483648) (min 2147483647
      (value + s.adder.history[(⟨2 * (age.val + 1), by omega⟩ : Fin 31)][j]))) := by
  unfold State.addLane
  exact dif_pos h

@[simp] theorem passLane_orphan : passLane .orphan = .orphan := rfl

@[simp] theorem passLane_oldest (value : Int) : passLane (.live 15 value) = .orphan := rfl

/-- R21: a live lane below age 15 only ages. -/
theorem passLane_live {age : Fin 16} (value : Int) (h : age.val < 15) :
    passLane (.live age value) = .live ⟨age.val + 1, by omega⟩ value := by
  unfold passLane
  exact dif_pos h

/-! ### The PASSING emission -/

/-- FRAME_EMISSION in a period that passes and has had none. -/
theorem exec_frameEmission {s : State} (hs : s.clock.start = .passing ∨ s.clock.start = .joined)
    (hopen : s.port.transmit = none) : exec .frameEmission s = .next s.begun.emit := by
  show execFrameEmission s = _
  simp [execFrameEmission, State.emissionOpen, s.periodsPass_iff.mpr hs, hopen]

/-- Settles O22: lane by lane, by the class of what arrived. -/
theorem passingEmissionOnlyAges : Obligations.PassingEmissionOnlyAges := by
  intro s hp hopen
  have hp' : s.begun.clock.start = .passing := by rw [s.begun_clock_start, hp]
  refine ⟨s.begun, s.begun.emission, exec_historyAdvance (.inl hp), ?_, s.begun_clock_member, ?_, ?_, fun j => ⟨?_, ?_⟩⟩
  · rw [exec_frameEmission (.inl hp) hopen, State.emit_passing hp']
  · show s.begun.port.due.isNone = _
    rw [s.begun_port]
  · show s.begun.port.due.bind _ = _
    rw [s.begun_port]
  · intro hdue
    rw [State.emission_lane]
    exact State.emittedLane_missing (by simp [State.joined, hp]) (by rw [s.begun_port, hdue])
  · intro e hdue
    have hpassed : s.begun.emission.lanes[j] = passLane e.lanes[j] := by
      rw [State.emission_lane, State.emittedLane_passing hp' (by rw [s.begun_port, hdue])]
    refine ⟨fun hlane => ?_, fun age value hlane => ⟨?_, fun h => ?_⟩⟩
    · rw [hpassed, hlane, passLane_orphan]
    · rintro rfl
      rw [hpassed, hlane, passLane_oldest]
    · rw [hpassed, hlane, passLane_live value h]

/-! ### The JOINED emission -/

@[simp] theorem State.insert_adder (s : State) : s.insert.adder = s.adder := by
  obtain ⟨d, q, f, h, -⟩ := s.insert_cases
  rw [h]

/-- R90: the insertion does not take an arrival out of the hop buffer or put one in. -/
theorem State.insert_due_isNone (s : State) : s.insert.port.due.isNone = s.port.due.isNone := by
  obtain ⟨d, q, f, h, hnone, -⟩ := s.insert_cases
  rw [h]
  exact hnone

/-- R90: the insertion leaves the lanes of the waiting arrival. -/
theorem State.insert_due_lanes {s : State} {e : HopEntry} (hdue : s.port.due = some e) :
    ∃ e', s.insert.port.due = some e' ∧ e'.lanes = e.lanes := by
  obtain ⟨d, q, f, h, -, hlanes⟩ := s.insert_cases
  rw [h]
  exact hlanes e hdue

/-- What the JOINED emission leaves of a vector that is not an anchor's. -/
theorem State.emit_vector_other {s : State} (hj : s.clock.start = .joined) {src : SourceNo}
    (h : src.val < 32 ∨ src.val = 64) : s.emit.reports.vectors[src] = s.reports.vectors[src] := by
  show s.insert.handOffs.reports.vectors[src] = _
  rw [State.handOffs, if_pos (State.joined_of_start (by rw [s.insert_clock, hj])), State.vector_stepAnchors,
    if_neg (by omega), State.insert_reports]

/-- What the JOINED emission leaves of the vector of an anchor number that no anchor has. -/
theorem State.emit_vector_none {s : State} (hj : s.clock.start = .joined) {m : AnchorNo}
    (h : s.outputs.anchors[m.val]? = none) :
    s.emit.reports.vectors[anchorSource m] = s.reports.vectors[anchorSource m] := by
  have hm : (anchorSource m).val - 32 = m.val := by simp [anchorSource]
  show s.insert.handOffs.reports.vectors[anchorSource m] = _
  rw [State.handOffs, if_pos (State.joined_of_start (by rw [s.insert_clock, hj])), State.vector_stepAnchors,
    State.insert_reports, State.insert_outputs, hm, List.getElem?_map, h]
  exact ite_self _

/-- Settles O21: the emission is that of the period's state with its advance and its insertion taken; its lanes go by what arrived
and what is anchored, and its anchors take the records of their lanes. -/
theorem joinedEmissionForwardsAndRestarts : Obligations.JoinedEmissionForwardsAndRestarts := by
  intro s handed hj hopen hhanded
  have hj' : s.begun.clock.start = .joined := by rw [s.begun_clock_start, hj]
  have hi : s.begun.insert.clock.start = .joined := by rw [State.insert_clock, hj']
  have hrecord : ∀ lane, s.begun.handOffOf lane = handed lane := fun lane => calc
    s.begun.handOffOf lane = s.handOffOf lane := by simp only [State.handOffOf, s.begun_port]
    _ = handed lane := (hhanded lane).symm
  have houtputs : s.begun.insert.outputs = s.outputs := by rw [State.insert_outputs, s.begun_outputs]
  refine ⟨s.begun, s.begun.insert, s.begun.emit, s.begun.insert.emission, exec_historyAdvance (.inr hj), rfl,
    exec_frameEmission (.inr hj) hopen, ?_, ?_, ?_, rfl, ?_, ?_, ?_, ?_⟩
  · conv_lhs => rw [State.emit_joined hj']
    simp only [hrecord, s.begun_outputs, State.insert_outputs]
  · show s.begun.insert.clock.member = _
    rw [State.insert_clock, s.begun_clock_member]
  · show s.begun.insert.port.due.isNone = _
    rw [State.insert_due_isNone, s.begun_port]
  · intro j hanchored
    rw [State.emission_lane, State.emittedLane_anchored hi (houtputs ▸ hanchored), State.insert_adder]
  · intro j hnone
    have hfree : s.begun.insert.anchors j = false := by
      rw [Bool.eq_false_iff, ne_eq, State.anchors_iff, houtputs]
      rintro ⟨a, ha, hlane⟩
      exact hnone a ha hlane
    constructor
    · intro hdue
      have hmissing : s.begun.insert.port.due = none := by
        rw [← Option.isNone_iff_eq_none, State.insert_due_isNone, s.begun_port, hdue]
        rfl
      rw [State.emission_lane, State.emittedLane_missing (by rw [hfree, Bool.and_false]) hmissing]
    · intro e hdue
      obtain ⟨e', hdue', hlanes⟩ := s.begun.insert_due_lanes (e := e) (by rw [s.begun_port, hdue])
      have hadded : s.begun.insert.emission.lanes[j] = s.begun.insert.addLane e.lanes[j] j := by
        rw [State.emission_lane, State.emittedLane_joined hi hfree hdue', hlanes]
      refine ⟨fun hlane => ?_, fun age value hlane => ⟨?_, fun h => ?_⟩⟩
      · rw [hadded, hlane, State.addLane_orphan]
      · rintro rfl
        rw [hadded, hlane, State.addLane_oldest]
      · rw [hadded, hlane, State.addLane_live _ _ _ h, State.insert_adder]
  · intro src h
    rw [State.emit_vector_other hj' h, s.begun_reports]
  · intro m
    constructor
    · intro hm
      rw [State.emit_vector_none hj' (by rw [s.begun_outputs, hm]), s.begun_reports]
    · intro x hx
      have hvector := (State.emit_anchor hj' (a := x) (by rw [s.begun_outputs, hx])).2
      rw [hvector, hrecord, s.begun_reports]

end Sys2Proof.Machine
end

section
/-! O23: the bytes of a frame, laid out and read back. -/

namespace Sys2Proof.Machine

open Sys2Proof

/-! ### Bytes of joined lists -/

theorem byteAt_append_left {l : List Byte} (l' : List Byte) {i : Nat} (h : i < l.length) :
    byteAt (l ++ l') i = byteAt l i := List.getD_append l l' _ i h

/-- A byte of the second list, at its place past the end of the first. -/
theorem byteAt_append_right (l l' : List Byte) (i : Nat) : byteAt (l ++ l') (l.length + i) = byteAt l' i := by
  unfold byteAt
  rw [List.getD_append_right _ _ _ _ (by omega), Nat.add_sub_cancel_left]

section
variable {α : Type} {f : α → List Byte} {size : Nat} (hsize : ∀ x, (f x).length = size)
include hsize

/-- The length of blocks of one size laid end to end. -/
theorem length_flatMap_blocks (l : List α) : (l.flatMap f).length = size * l.length := by
  induction l with
  | nil => rfl
  | cons x l ih =>
    rw [List.flatMap_cons, List.length_append, hsize, ih, List.length_cons, Nat.mul_succ]
    omega

/-- Byte `k` of block `j` of blocks of one size laid end to end. -/
theorem byteAt_flatMap_blocks (l : List α) {j k : Nat} (hj : j < l.length) (hk : k < size) :
    byteAt (l.flatMap f) (size * j + k) = byteAt (f l[j]) k := by
  induction l generalizing j with
  | nil => cases hj
  | cons x l ih =>
    rw [List.flatMap_cons]
    cases j with
    | zero => rw [Nat.mul_zero, Nat.zero_add, byteAt_append_left _ (by rw [hsize]; exact hk), List.getElem_cons_zero]
    | succ j =>
      have hplace : size * (j + 1) + k = (f x).length + (size * j + k) := by rw [hsize, Nat.mul_succ]; omega
      rw [hplace, byteAt_append_right, ih (by simpa using hj), List.getElem_cons_succ]

end

/-! ### Fields (R100) -/

/-- A two-byte field reads back. -/
theorem field16_bytes16 (x : BitVec 16) : field16 (bytes16 x) 0 = x := by
  show x.extractLsb' 8 8 ++ x.extractLsb' 0 8 = x
  rw [BitVec.extractLsb'_append_extractLsb'_eq_extractLsb' (by rfl : 8 = 0 + 8), BitVec.extractLsb'_eq_self]

/-- A four-byte field reads back. -/
theorem field32_bytes32 (x : BitVec 32) (l : List Byte) : field32 (bytes32 x ++ l) 0 = x := by
  show (x.extractLsb' 24 8 ++ x.extractLsb' 16 8) ++ (x.extractLsb' 8 8 ++ x.extractLsb' 0 8) = x
  rw [BitVec.extractLsb'_append_extractLsb'_eq_extractLsb' (by rfl : 24 = 16 + 8),
    BitVec.extractLsb'_append_extractLsb'_eq_extractLsb' (by rfl : 8 = 0 + 8),
    BitVec.extractLsb'_append_extractLsb'_eq_extractLsb' (by rfl : 16 = 0 + (8 + 8)), BitVec.extractLsb'_eq_self]

/-! ### Lanes (R11, R13) -/

theorem Lane.bytes_length (lane : Lane) : lane.bytes.length = 5 := by cases lane <;> rfl

/-- A lane whose value is a lane value reads back from its five bytes. -/
theorem laneRead_bytes {lane : Lane}
    (h : ∀ (age : Fin 16) (value : Int), lane = .live age value → -2147483648 ≤ value ∧ value ≤ 2147483647) :
    laneRead (field32 lane.bytes 0) (byteAt lane.bytes 4) = lane := by
  cases lane with
  | orphan => rfl
  | live age value =>
    obtain ⟨hlo, hhi⟩ := h age value rfl
    have hvalue : (BitVec.ofInt 32 value).toInt = value := by
      rw [BitVec.toInt_ofInt]
      exact Int.bmod_eq_of_le (by omega) (by omega)
    have htag : (BitVec.ofNat 8 age.val).toNat = age.val := Nat.mod_eq_of_lt (by omega)
    have hbyte : byteAt (Lane.live age value).bytes 4 = BitVec.ofNat 8 age.val := rfl
    rw [hbyte, Lane.bytes, field32_bytes32]
    unfold laneRead
    rw [dif_pos (by omega), hvalue]
    simp [htag]

/-! ### The message slot (R81) -/

theorem slotBytes_length (slot : Option Message) : (slotBytes slot).length = 32 := by
  cases slot <;> simp [slotBytes]

/-- A payload of 28 bytes reads back. -/
theorem payloadOf_toList (p : Vector Byte 28) : payloadOf p.toList = p := by
  ext i hi
  simp [payloadOf, byteAt]

/-- A message that has a kind reads back from its slot, and so does an empty slot. -/
theorem slotMessage_slotBytes {slot : Option Message} (h : ∀ m ∈ slot, m.kind ≠ 0#8) :
    slotMessage (slotBytes slot) = slot := by
  cases slot with
  | none => rfl
  | some m =>
    have hkind : byteAt (slotBytes (some m)) 0 ≠ 0#8 := h m rfl
    have hpayload : payloadOf ((slotBytes (some m)).drop 4) = m.payload := payloadOf_toList m.payload
    rw [slotMessage, if_neg hkind, hpayload]
    rfl

/-! ### Frames (R2, R4, R5, R100) -/

section
variable (f : Frame)

/-- The 64 lanes take five bytes each. -/
theorem Frame.lanes_length : (f.lanes.toList.flatMap Lane.bytes).length = 320 := by
  rw [length_flatMap_blocks Lane.bytes_length, Vector.length_toList]

theorem Frame.content_length : f.content.length = 355 := by
  simp only [Frame.content, List.length_append, f.lanes_length, slotBytes_length]
  rfl

theorem Frame.bytes_length : f.bytes.length = 357 := by
  rw [Frame.bytes, List.length_append, f.content_length]
  rfl

/-- The check code stands after the content it is formed of. -/
theorem Frame.field16_bytes : field16 f.bytes 355 = crc16 f.content := by
  have hcode : ∀ i, byteAt f.bytes (355 + i) = byteAt (bytes16 (crc16 f.content)) i := fun i => by
    rw [← f.content_length]
    exact byteAt_append_right ..
  calc field16 f.bytes 355 = byteAt f.bytes (355 + 0) ++ byteAt f.bytes (355 + 1) := rfl
    _ = field16 (bytes16 (crc16 f.content)) 0 := by rw [hcode, hcode]; rfl
    _ = crc16 f.content := field16_bytes16 _

theorem Frame.byteAt_emitter : byteAt f.bytes 1 = memberByte f.emitter := rfl

theorem Frame.goodFrame_bytes : goodFrame f.bytes = true := by
  have hcontent : f.bytes.take 355 = f.content := List.take_left' f.content_length
  have hemitter : (memberByte f.emitter).toNat < 16 := by
    simp only [memberByte, BitVec.toNat_ofNat]
    omega
  rw [goodFrame, hcontent, f.field16_bytes, f.byteAt_emitter]
  simp [hemitter]

/-- Byte `k` of lane `j`. -/
theorem Frame.byteAt_lane (j : LaneNo) {k : Nat} (hk : k < 5) :
    byteAt f.bytes (3 + (5 * j.val + k)) = byteAt f.lanes[j].bytes k := by
  let header : List Byte := [frameMarker, memberByte f.emitter, boolByte f.regenerated]
  have hparts : f.bytes =
      header ++ (f.lanes.toList.flatMap Lane.bytes ++ (slotBytes f.slot ++ bytes16 (crc16 f.content))) := by
    simp [Frame.bytes, Frame.content, header]
  have hlanes := byteAt_flatMap_blocks Lane.bytes_length f.lanes.toList (j := j.val) (by simp) hk
  rw [hparts]
  calc byteAt (header ++ _) (header.length + (5 * j.val + k)) = byteAt (_ ++ _) (5 * j.val + k) :=
        byteAt_append_right ..
    _ = byteAt (f.lanes.toList.flatMap Lane.bytes) (5 * j.val + k) :=
        byteAt_append_left _ (by rw [f.lanes_length]; omega)
    _ = byteAt f.lanes[j].bytes k := by simpa using hlanes

theorem Frame.frameLanes_bytes
    (h : ∀ (j : LaneNo) (age : Fin 16) (value : Int), f.lanes[j] = .live age value →
      -2147483648 ≤ value ∧ value ≤ 2147483647) : frameLanes f.bytes = f.lanes := by
  ext j hj
  have hbyte : ∀ k < 5, byteAt f.bytes (3 + 5 * j + k) = byteAt f.lanes[j].bytes k := fun k hk => by
    rw [Nat.add_assoc]
    exact f.byteAt_lane ⟨j, hj⟩ hk
  have hfield : field32 f.bytes (3 + 5 * j) = field32 f.lanes[j].bytes 0 := by
    have h0 := hbyte 0 (by decide)
    have h1 := hbyte 1 (by decide)
    have h2 := hbyte 2 (by decide)
    have h3 := hbyte 3 (by decide)
    simp only [field32, field16, Nat.add_assoc, Nat.zero_add, Nat.add_zero] at *
    rw [h0, h1, h2, h3]
  have htag : byteAt f.bytes (7 + 5 * j) = byteAt f.lanes[j].bytes 4 := by
    rw [← hbyte 4 (by decide)]
    congr 1
    omega
  rw [frameLanes, Vector.getElem_ofFn, frameLane, hfield, htag]
  exact laneRead_bytes (h ⟨j, hj⟩)

theorem Frame.frameSlot_bytes (h : ∀ m ∈ f.slot, m.kind ≠ 0#8) : frameSlot f.bytes = f.slot := by
  have hparts : f.bytes = ([frameMarker, memberByte f.emitter, boolByte f.regenerated] ++
      f.lanes.toList.flatMap Lane.bytes) ++ (slotBytes f.slot ++ bytes16 (crc16 f.content)) := by
    simp [Frame.bytes, Frame.content]
  have hslot : (f.bytes.drop 323).take 32 = slotBytes f.slot := by
    rw [hparts, List.drop_left' (by simp only [List.length_append, f.lanes_length]; rfl),
      List.take_left' (slotBytes_length _)]
  rw [frameSlot, hslot, slotMessage_slotBytes h]

end

/-- Settles O23, part by part of the frame. -/
theorem emittedFrameReadsBack : Obligations.EmittedFrameReadsBack := by
  intro f hlanes hslot
  refine ⟨f.bytes_length, ?_, f.goodFrame_bytes, ?_, rfl, f.frameLanes_bytes hlanes, f.frameSlot_bytes hslot⟩
  · rw [isFrame, f.bytes_length]
    rfl
  · rw [f.byteAt_emitter, memberOf_memberByte]

end Sys2Proof.Machine
end

section
/-! O60: the state after power reset has every invariant. -/

namespace Sys2Proof.Machine

open Sys2Proof

/-! ### What each block holds after power reset -/

theorem State.strip_reset (n : StripNo) : State.reset.strip n = Strip.reset 12000 := by
  simp [State.strip, State.reset, StripEngine.reset, Profile.default]

theorem State.table_reset (i : Fin 3) : State.reset.table i = CensusTable.vacant := by
  simp [State.table, State.reset, Census.reset]

theorem State.group_reset (g : GroupNo) : State.reset.group g = GroupEntry.reset := by
  simp [State.group, State.reset, groupsReset]

theorem State.captureUnit_reset (u : UnitNo) : State.reset.captureUnit u = CaptureUnit.reset := by
  simp [State.captureUnit, State.reset, unitsReset]

/-! ### The census tables (R121) -/

theorem CensusTable.vacant_home (i : Fin 128) : CensusTable.vacant.home[i] = none := by simp [CensusTable.vacant]

@[simp] theorem CensusTable.vacant_population : CensusTable.vacant.population = 0 := by
  simp [CensusTable.population, CensusTable.keys, CensusTable.vacant, homeKeys]

theorem CensusTable.vacant_sound (own : Member) : CensusTable.vacant.Sound own := by
  refine ⟨?_, fun i => by rw [CensusTable.vacant_home]; simp [homeKeys]⟩
  have hlinks : CensusTable.vacant.links = [] := by simp [CensusTable.links, CensusTable.vacant, homeLinks]
  rw [hlinks]
  rfl

/-! ### The invariants -/

/-- R44: a strip at reset is as far down as its level says, 0. -/
theorem State.reset_targetsSound : State.reset.TargetsSound := by
  intro n
  rw [State.strip_reset]
  decide

theorem State.reset_soloSound : State.reset.SoloSound := by
  refine ⟨?_, ?_, by decide⟩
  · rw [State.soloWanted, State.table_reset, CensusTable.vacant_population]
    rfl
  · simp only [State.strip_reset, Strip.reset]
    rfl

theorem State.reset_censusSound : State.reset.CensusSound := by
  refine ⟨fun i => ?_, by decide, fun i _ => ?_, nofun⟩
  · rw [State.table_reset]
    exact CensusTable.vacant_sound _
  · rw [State.table_reset, CensusTable.vacant_home]

theorem State.reset_leadsSound : State.reset.LeadsSound := by
  intro g
  rw [State.leadSound, State.silentSound, State.group_reset]
  exact ⟨nofun, by decide, fun _ => rfl⟩

theorem State.reset_capturesSound : State.reset.CapturesSound := by
  refine ⟨fun u => ?_, fun u n => ?_⟩
  · rw [State.captureUnit_reset]
    decide
  · simp [State.captureUnit_reset, State.strip_reset, CaptureUnit.reset, Strip.reset]

theorem State.reset_anchorsSound : State.reset.AnchorsSound := by
  have hanchors : State.reset.outputs.anchors = [] := rfl
  have hslot (slot : SlotNo) : State.reset.outputs.slots[slot] = 0 := by simp [State.reset, silentSlots]
  simp [State.AnchorsSound, hanchors, hslot]

/-- Settles O60, an invariant at a time. -/
theorem resetHasEveryInvariant : Obligations.ResetHasEveryInvariant := by
  obtain ⟨hstrips, hcues, hsums⟩ := (State.inRange_iff _).mp State.reset_inRange
  have hqueues : State.reset.QueuesSound :=
    ⟨by decide, fun _ => Nat.zero_le _, fun _ _ => Nat.zero_le _, fun _ _ => Nat.zero_le _, by decide, fun _ => rfl⟩
  exact ⟨hstrips, hcues, hsums, State.reset_targetsSound, State.reset_soloSound, hqueues, State.reset_censusSound,
    State.reset_leadsSound, State.reset_capturesSound, State.reset_anchorsSound⟩

end Sys2Proof.Machine
end

section
/-! O33: mute groups. -/

namespace Sys2Proof.Machine

open Sys2Proof

/-- The bit of one group in a set of groups. -/
theorem getLsbD_groupBit {g : Nat} (hlow : 1 ≤ g) (hhigh : g ≤ 16) (i : Fin 16) :
    (1#16 <<< (g - 1)).getLsbD i.val = decide (i.val + 1 = g) := by
  rw [Bool.eq_iff_iff]
  simp only [BitVec.getLsbD_shiftLeft, BitVec.getLsbD_one, Bool.and_eq_true, Bool.not_eq_true', decide_eq_true_eq,
    decide_eq_false_iff_not]
  omega

/-- R34: a group's bit is written, and the bits of the other groups stay. -/
theorem withMute_getLsbD {g : Nat} (hlow : 1 ≤ g) (hhigh : g ≤ 16) (on : Bool) (active : BitVec 16) (i : Fin 16) :
    (withMute g on active).getLsbD i.val = if i.val + 1 = g then on else active.getLsbD i.val := by
  have hbit := getLsbD_groupBit hlow hhigh i
  unfold withMute
  cases on with
  | false =>
    simp only [Bool.false_eq_true, if_false, BitVec.getLsbD_and, BitVec.getLsbD_not, hbit, i.isLt, decide_true]
    by_cases hi : i.val + 1 = g <;> simp [hi]
  | true =>
    simp only [if_true, BitVec.getLsbD_or, hbit]
    by_cases hi : i.val + 1 = g <;> simp [hi]

/-- R35: what a change of the active set leaves of a strip. -/
theorem State.strip_setActiveMutes (active : BitVec 16) (s : State) (n : StripNo) :
    (s.setActiveMutes active).strip n =
      if (s.strip n).muted active = (s.strip n).muted s.engine.activeMutes then s.strip n
      else (s.strip n).retarget s.census.soloActive active shortRamp := by
  rw [State.setActiveMutes, State.strip_mapStrips, ite_not]
  rfl

/-- Settles O33: the active set by its bits, and each strip by whether its muted state changes. -/
theorem muteGroupSwitchesOneGroup : Obligations.MuteGroupSwitchesOneGroup := by
  intro source group state s hacts
  have hexec : exec (.muteGroup source group state) s = .next (s.actMuteGroup source group state) :=
    congrArg _ (State.whenActing_of_acts hacts _)
  rw [hexec]
  refine ⟨fun hlow hhigh => ?_, fun hout => ?_⟩
  · rw [State.actMuteGroup, if_pos ⟨hlow, hhigh⟩]
    refine ⟨_, rfl, rfl, fun i => withMute_getLsbD hlow hhigh _ _ i, ?_⟩
    rintro n a rfl
    exact State.strip_setActiveMutes ..
  · rw [State.actMuteGroup, if_neg (by omega)]
    rfl

end Sys2Proof.Machine
end

section
/-! O37 and O42: the link offset, faders, and the announcements of other members. -/

namespace Sys2Proof.Machine

open Sys2Proof

/-! ### Latching for strips (R164) -/

theorem State.vector_latchStrips (events : StripNo → List NoticeEvent) (s : State) (n : StripNo) :
    (s.latchStrips events).reports.vectors[stripSource n] = s.reports.vectors[stripSource n].latchAll (events n) := by
  simp [State.latchStrips, stripSource]

/-- Sources other than the strips take nothing. -/
theorem State.vector_latchStrips_other (events : StripNo → List NoticeEvent) (s : State) {src : SourceNo}
    (h : 32 ≤ src.val) : (s.latchStrips events).reports.vectors[src] = s.reports.vectors[src] := by
  simp [State.latchStrips, Nat.not_lt.mpr h]

theorem stripSource_ne_node (n : StripNo) : stripSource n ≠ nodeSource := fun e => by
  have hval : n.val = 64 := congrArg Fin.val e
  omega

/-! ### Leads and waiters (R134, R135) -/

/-- No strip of this node leads a group whose lead is another member's. -/
theorem State.leads_of_remote {s : State} {g : GroupNo} {k : Key} (hlead : (s.group g).lead = some k)
    (hremote : k.member ≠ s.clock.member) (n : StripNo) : s.leads g n = false := by
  rw [State.leads, hlead, beq_eq_false_iff_ne]
  rintro ⟨⟩
  exact hremote rfl

/-- A group has at most one lead. -/
theorem State.leads_eq_false_of_ne {s : State} {g : GroupNo} {n k : StripNo} (hleads : s.leads g n = true) (hk : k ≠ n) :
    s.leads g k = false := by
  rw [State.leads, beq_iff_eq] at hleads
  rw [State.leads, hleads, beq_eq_false_iff_ne]
  rintro ⟨⟩
  exact hk rfl

/-- Whether a strip waits for a group's lead goes by its record and by whether it leads. -/
theorem State.isWaiter_congr {s t : State} {g : GroupNo} {k : StripNo} (hstrip : t.strip k = s.strip k)
    (hleads : t.leads g k = s.leads g k) : t.isWaiter g k = s.isWaiter g k := by
  rw [State.isWaiter, State.isWaiter, State.isMember, State.isMember, hstrip, hleads]

/-! ### The link offset (R33) -/

theorem State.withDelta_eq (s : State) {b : Strip} {change sum offset : Int} (hsum : sum = b.offset + change)
    (hoffset : offset = max (-400) (min 400 sum)) :
    s.withDelta change b = if offset ≠ b.offset then
      { b with
        offset := offset
        ramp := b.ramp.retarget (({ b with offset := offset } : Strip).target s.census.soloActive s.engine.activeMutes) 240 }
      else b := by
  subst hsum hoffset
  rw [ite_not]
  rfl

section
variable (g : GroupNo) (change : Int) (s : State)

@[simp] theorem State.applyDelta_message : (s.applyDelta g change).message = s.message := by simp [State.applyDelta]

@[simp] theorem State.group_applyDelta (h : GroupNo) : (s.applyDelta g change).group h = s.group h := by
  simp [State.applyDelta]

/-- A delta reaches the strips and their vectors; nothing else. -/
theorem State.applyDelta_eq : s.applyDelta g change = { s with
    engine.strips := (s.applyDelta g change).engine.strips
    reports.vectors := (s.applyDelta g change).reports.vectors } := by
  simp only [State.applyDelta, State.latchStrips, State.mapStrips]

end

theorem State.vector_applyDelta_other (g : GroupNo) (change : Int) (s : State) {src : SourceNo} (h : 32 ≤ src.val) :
    (s.applyDelta g change).reports.vectors[src] = s.reports.vectors[src] := by
  rw [State.applyDelta, State.vector_latchStrips_other _ _ h, State.mapStrips_reports]

/-- The lead itself takes no delta of its group. -/
theorem State.strip_applyDelta_lead {s : State} {g : GroupNo} {n : StripNo} (hleads : s.leads g n = true) (change : Int) :
    (s.applyDelta g change).strip n = s.strip n := by
  simp [State.applyDelta, hleads]

/-- What a delta does to a strip that does not lead: a member's offset and target move, LINK CLAMP is latched for a sum outside
the range, and a strip outside the group stays. -/
theorem State.applyDelta_other {s : State} {g : GroupNo} {k : StripNo} (hleads : s.leads g k = false)
    {b : Strip} {change sum offset : Int} (hb : b = s.strip k) (hsum : sum = b.offset + change)
    (hoffset : offset = max (-400) (min 400 sum)) :
    (s.applyDelta g change).strip k = (if b.linkGroup = some g ∧ offset ≠ b.offset then
      { b with
        offset := offset
        ramp := b.ramp.retarget (({ b with offset := offset } : Strip).target s.census.soloActive s.engine.activeMutes) 240 }
      else b) ∧
    (s.applyDelta g change).reports.vectors[stripSource k] =
      (if b.linkGroup = some g ∧ (sum < -400 ∨ 400 < sum) then
        { events := s.reports.vectors[stripSource k].events ||| NoticeEvent.linkClamp.set
          count := min 255 (s.reports.vectors[stripSource k].count + 1) }
      else s.reports.vectors[stripSource k]) := by
  rw [State.applyDelta, State.strip_latchStrips, State.strip_mapStrips, State.vector_latchStrips, State.mapStrips_reports,
    ← hb, State.withDelta_eq s hsum hoffset, State.isMember, ← hb, hleads, offsetClamps, ← hsum]
  by_cases hmember : b.linkGroup = some g
  · simp only [hmember, BEq.rfl, Bool.not_false, Bool.and_self, Bool.true_and, if_true, true_and, Bool.or_eq_true,
      decide_eq_true_eq]
    split <;> rfl
  · simp only [hmember, beq_eq_false_iff_ne.mpr hmember, Bool.false_and, Bool.false_eq_true, if_false, false_and]
    exact ⟨trivial, rfl⟩

/-! ### Announcements of other members (R140 to R142) -/

section
variable {source : Member} {group strip : Byte} {g : GroupNo} {n : StripNo} {s : State}

/-- An announcement whose fields name a group and a strip acts with the key of that strip of its member. -/
theorem State.announced_of_named (hgroup : group.toNat = g.val + 1) (hstrip : strip.toNat = n.val)
    (act : GroupNo → Key → State → State) : s.announced source group strip act = act g { member := source, strip := n } s := by
  rw [State.announced, groupOf_eq_some hgroup, stripOf_eq_some hstrip]

variable (hacts : s.Acts source) (hgroup : group.toNat = g.val + 1) (hstrip : strip.toNat = n.val)
include hacts hgroup hstrip

theorem exec_groupClaim :
    exec (.groupClaim source group strip) s = .next (s.takeClaim g { member := source, strip := n }) :=
  congrArg _ ((State.whenActing_of_acts hacts _).trans (State.announced_of_named hgroup hstrip _))

theorem exec_groupRelease :
    exec (.groupRelease source group strip) s = .next (s.takeRelease g { member := source, strip := n }) :=
  congrArg _ ((State.whenActing_of_acts hacts _).trans (State.announced_of_named hgroup hstrip _))

theorem exec_groupDelta (carried : BitVec 16) : exec (.groupDelta source group strip carried) s =
    .next (s.takeDelta g { member := source, strip := n } carried.toInt) :=
  congrArg _ ((State.whenActing_of_acts hacts _).trans (State.announced_of_named hgroup hstrip _))

end

/-- R134, field `local`, of a lead that is there. -/
theorem State.leadIsLocal_of_lead {s : State} {g : GroupNo} {k : Key} (h : (s.group g).lead = some k) :
    s.leadIsLocal g = decide (k.member = s.clock.member) := by
  rw [State.leadIsLocal, h]
  rfl

section
variable {s : State} {g : GroupNo} {key : Key}

/-- R140: a claim against a lead with another key goes by the order of the keys. -/
theorem State.takeClaim_of_other {lead : Key} (hlead : (s.group g).lead = some lead) (hne : lead ≠ key) :
    s.takeClaim g key = if 32 * key.member.val + key.strip.val < 32 * lead.member.val + lead.strip.val then
      s.setGroup g
        { lead := some key, silent := 0, mark := (s.group g).mark && decide (lead.member ≠ s.clock.member) }
      else s := by
  rw [State.takeClaim, hlead]
  simp only [if_neg hne, State.leadIsLocal_of_lead hlead, Key.rank, decide_not]

/-- R141: what clearing a remote lead leaves of the waiters: the same strips wait. -/
theorem State.isWaiter_cleared (hlead : (s.group g).lead = some key) (hremote : key.member ≠ s.clock.member) (k : StripNo) :
    (s.setGroup g (s.group g).cleared).isWaiter g k = s.isWaiter g k :=
  State.isWaiter_congr rfl (by
    rw [State.leads_of_remote hlead hremote, State.leads, State.group_setGroup_same]
    rfl)

end

/-- Settles O42, by the key of the lead against the key announced. -/
theorem groupAnnouncementsFollowTheLowestKey : Obligations.GroupAnnouncementsFollowTheLowestKey := by
  rintro source group strip carried g n key s hacts hgroup hstrip rfl
  have hremote : source ≠ s.clock.member := hacts.2
  rw [exec_groupClaim hacts hgroup hstrip, exec_groupRelease hacts hgroup hstrip, exec_groupDelta hacts hgroup hstrip]
  refine ⟨fun hnone => ?_, fun hother => ⟨?_, ?_⟩, fun lead hlead hne => ⟨fun hlow => ?_, fun hhigh => ?_⟩,
    fun hlead => ⟨?_, fun hnone => ?_, fun k hk hlow => ?_, ?_⟩⟩
  · rw [State.takeClaim, hnone]
  · rw [State.takeRelease, if_neg hother]
  · rw [State.takeDelta, if_neg hother]
    rfl
  · rw [State.takeClaim_of_other hlead hne, if_pos hlow]
  · rw [State.takeClaim_of_other hlead hne, if_neg (Nat.not_lt.mpr hhigh.le)]
  · simp only [State.takeClaim, hlead, if_true]
  · rw [State.takeRelease, if_pos hlead, State.handOn_of_none fun k => (State.isWaiter_cleared hlead hremote k).trans (hnone k)]
    rfl
  · rw [State.takeRelease, if_pos hlead, State.handOn_of_waiter ((State.isWaiter_cleared hlead hremote k).trans hk)
      fun lower hlt => (State.isWaiter_cleared hlead hremote lower).trans (hlow lower hlt), State.takeLead,
      State.setGroup_setGroup, State.group_setGroup_same]
    rfl
  · rw [State.takeDelta, if_pos hlead]
    refine ⟨_, rfl, ?_, State.group_setGroup_same .., fun h hne => ?_, fun src hsrc => ?_, ?_⟩
    · rw [State.setGroup, State.applyDelta_eq]
    · rw [State.group_setGroup, if_neg hne.symm, State.group_applyDelta]
    · rw [State.setGroup_reports, State.vector_applyDelta_other _ _ _ hsrc]
    · intro k b sum offset hb hsum hoffset
      rw [State.strip_setGroup, State.setGroup_reports]
      exact State.applyDelta_other (State.leads_of_remote hlead hremote k) hb hsum hoffset

/-! ### Faders (R104, R139) -/

/-- R101: when the live level is in force. -/
theorem Strip.liveInForce_iff (st : Strip) : st.liveInForce = true ↔ st.mode = .manual ∨
    (st.mode = .touch ∧ st.touched = true) ∨ (st.mode = .latch ∧ (st.touched = true ∨ st.latched = true)) := by
  rw [Strip.liveInForce]
  cases st.mode <;> simp

/-- R104: a live level other than the one held moves the target where it is in force. -/
theorem State.setStripEffective_live (s : State) (n : StripNo) {level : Int} (h : level ≠ (s.strip n).live) :
    s.setStripEffective n moveRamp { s.strip n with live := level } = s.setStrip n { s.strip n with
      live := level
      ramp := if (s.strip n).liveInForce then
          (s.strip n).ramp.retarget
            (({ s.strip n with live := level } : Strip).target s.census.soloActive s.engine.activeMutes) 240
        else (s.strip n).ramp } := by
  have heffective : ({ s.strip n with live := level } : Strip).effective =
      if (s.strip n).liveInForce then level else (s.strip n).auto := rfl
  rw [State.setStripEffective, heffective, Strip.effective]
  cases (s.strip n).liveInForce with
  | false => simp
  | true => simp [h, State.setRetargeted, State.retargeted, Strip.retarget_eq, moveRamp]

/-- A lead's move reaches the strips, the queue and the vectors; nothing else. -/
theorem State.handMove_eq (n : StripNo) (change : Int) (s : State) : s.handMove n change = { s with
    engine.strips := (s.handMove n change).engine.strips
    message.outbound := (s.handMove n change).message.outbound
    message.counters.outboundDrop := (s.handMove n change).message.counters.outboundDrop
    reports.vectors := (s.handMove n change).reports.vectors } := by
  unfold State.handMove
  split
  · split
    · rw [State.leadMove, State.announce, State.offer_eq, State.applyDelta_eq]
    · rfl
  · rfl

/-- The strip that moves takes no delta of its own. -/
theorem State.strip_handMove_same (n : StripNo) (change : Int) (s : State) : (s.handMove n change).strip n = s.strip n := by
  unfold State.handMove
  split
  · split
    · rename_i hleads
      rw [State.leadMove, State.announce, State.strip_offer, State.strip_applyDelta_lead hleads]
    · rfl
  · rfl

/-- A strip that leads no group hands no move on. -/
theorem State.handMove_of_not {n : StripNo} {s : State} (h : ∀ g : GroupNo, (s.strip n).linkGroup = some g → s.leads g n = false)
    (change : Int) : s.handMove n change = s := by
  unfold State.handMove
  split
  · rename_i g hg
    rw [h g hg]
    rfl
  · rfl

theorem State.handMove_of_leads {n : StripNo} {g : GroupNo} {s : State} (hgroup : (s.strip n).linkGroup = some g)
    (hleads : s.leads g n = true) (change : Int) :
    s.handMove n change = (s.applyDelta g change).announce (.delta g n change) := by
  rw [State.handMove, hgroup]
  simp only [hleads, if_true]
  rfl

/-- Settles O37: the move is the named strip's new record, and then what the Group Table makes of it. -/
theorem faderMovesTheLiveLevelAndItsGroup : Obligations.FaderMovesTheLiveLevelAndItsGroup := by
  rintro source strip carried n a level s hacts hstrip rfl hlevel
  have hexec : exec (.fader source strip carried) s = .next (s.moveFader n level) := by
    refine congrArg _ ((State.whenActing_of_acts hacts _).trans ?_)
    rw [State.actFader, State.stripCommand, stripOf_eq_some hstrip, hlevel]
    rfl
  rw [hexec]
  refine ⟨fun hsame => by rw [State.moveFader, if_pos hsame], fun hmoves => ?_⟩
  rw [State.moveFader, if_neg hmoves, State.setStripEffective_live s n hmoves]
  simp only [Strip.liveInForce_iff]
  refine ⟨_, rfl, State.handMove_eq .., ?_, fun hnot => ?_, fun g change hlink hlead hchange => ?_⟩
  · rw [State.strip_handMove_same, State.strip_setStrip_same]
  · rw [State.handMove_of_not]
    · exact ⟨fun k hk => State.strip_setStrip_ne _ hk.symm _, rfl, rfl⟩
    · rw [State.strip_setStrip_same]
      exact hnot
  · subst hchange
    rw [State.handMove_of_leads (g := g)]
    · refine ⟨State.offer_message_congr _ ?_, fun src hlow hhigh => ?_, fun k b sum offset hk hb hsum hoffset => ?_⟩
      · rw [State.applyDelta_message, State.setStrip_message]
      · rw [State.announce, State.offer_vector, State.vector_applyDelta_other _ _ _ hlow, State.setStrip_reports]
        rintro rfl
        exact absurd hhigh (by decide)
      · rw [State.announce, State.strip_offer, State.offer_vector _ _ (stripSource_ne_node k)]
        refine State.applyDelta_other ?_ ?_ hsum hoffset
        · exact State.leads_eq_false_of_ne hlead hk
        · rw [hb, State.strip_setStrip_ne _ hk.symm]
    · rw [State.strip_setStrip_same]
      exact hlink
    · exact hlead

end Sys2Proof.Machine
end

section
/-! O34: placements, staged and committed. -/

namespace Sys2Proof.Machine

open Sys2Proof

/-! ### The taps of a PLACE (R36) -/

theorem tapOf_eq_some_iff {f : TapField} {t : Tap} :
    tapOf f = some t ↔ f.lane.toNat = t.lane.val ∧ min 32768 f.coef.toNat = t.coef := by
  obtain ⟨lane, coef⟩ := t
  rw [tapOf, laneOf]
  split
  · simp [Fin.ext_iff]
  · simp only [Option.map_none, reduceCtorEq, false_iff, not_and]
    intro h
    omega

/-- The taps taken are those carried, place by place, with their coefficients clamped. -/
theorem tapsOf_eq_some_iff {fs : List TapField} {ts : List Tap} : tapsOf fs = some ts ↔
    fs.map (fun x => (x.lane.toNat, min 32768 x.coef.toNat)) = ts.map fun tap => (tap.lane.val, tap.coef) := by
  rw [tapsOf, ← List.mapM'_eq_mapM]
  induction fs generalizing ts with
  | nil => cases ts <;> simp
  | cons f fs ih => cases ts <;> simp [← ih, Option.bind_eq_some_iff, ← tapOf_eq_some_iff]

theorem tapsOf_lanes {fs : List TapField} {ts : List Tap} (h : tapsOf fs = some ts) :
    fs.map (fun x => x.lane.toNat) = ts.map fun tap => tap.lane.val := by
  have hmap := congrArg (List.map Prod.fst) (tapsOf_eq_some_iff.mp h)
  rw [List.map_map, List.map_map] at hmap
  exact hmap

/-- A tap carried is among those taken. -/
theorem tapsOf_mem {fs : List TapField} {ts : List Tap} (h : tapsOf fs = some ts) {x : TapField} (hx : x ∈ fs) :
    ∃ tap ∈ ts, tap.lane.val = x.lane.toNat :=
  List.mem_map.mp (tapsOf_lanes h ▸ List.mem_map_of_mem hx)

/-- Taps taken on distinct lanes were carried with distinct lane fields. -/
theorem tapsOf_nodup {fs : List TapField} {ts : List Tap} (h : tapsOf fs = some ts) (hlanes : (ts.map Tap.lane).Nodup) :
    (fs.map TapField.lane).Nodup := by
  have hvals := hlanes.map Fin.val_injective
  rw [List.map_map] at hvals
  refine .of_map BitVec.toNat ?_
  rw [List.map_map]
  exact tapsOf_lanes h ▸ hvals

theorem carriedTaps_length {f : PlaceFields} (h : f.count.toNat ≤ 4) : (carriedTaps f).length = f.count.toNat := by
  rw [carriedTaps, List.length_take]
  exact min_eq_left h

/-- A PLACE that carries no tap has the tap count 0. -/
theorem tapsOf_eq_nil_iff {f : PlaceFields} {taps : List Tap} (hcount : f.count.toNat ≤ 4)
    (h : tapsOf (carriedTaps f) = some taps) : taps = [] ↔ f.count = 0#8 := by
  rw [← List.length_eq_zero_iff, tapsOf_length h, carriedTaps_length hcount, ← BitVec.toNat_inj]
  rfl

/-- R36: a well-formed PLACE. -/
theorem placeTaps_eq_some_iff {f : PlaceFields} {staged : Option (List Tap)} {taps : List Tap} :
    placeTaps f staged = some taps ↔ tapsOf (carriedTaps f) = some taps ∧ f.count.toNat ≤ 4 ∧ (taps.map Tap.lane).Nodup ∧
      ((f.parts = 1#8 ∧ f.part = 1#8) ∨ (f.parts = 2#8 ∧ f.count ≠ 0#8 ∧
        (f.part = 1#8 ∨ f.part = 2#8 ∧ ∃ first, staged = some first ∧ ((first ++ taps).map Tap.lane).Nodup))) := by
  have hne : (1#8 : Byte) ≠ 2#8 := by decide
  have hstaged (ts : List Tap) : (staged.isSome = true ∧ distinctLanes (staged.getD [] ++ ts) = true) ↔
      ∃ first, staged = some first ∧ ((first ++ ts).map Tap.lane).Nodup := by
    cases staged <;> simp [distinctLanes]
  unfold placeTaps
  cases tapsOf (carriedTaps f) with
  | none => simp
  | some ts =>
    dsimp only
    rw [Option.ite_none_right_eq_some, hstaged, distinctLanes, decide_eq_true_eq, Option.some.injEq]
    constructor
    · rintro ⟨⟨hparts, hpart, hcount, hempty, hdistinct, hsecond⟩, rfl⟩
      refine ⟨rfl, hcount, hdistinct, ?_⟩
      tauto
    · rintro ⟨rfl, hcount, hdistinct, ⟨hparts, hpart⟩ | ⟨hparts, hempty, hpart⟩⟩
      · simp [hparts, hpart, hcount, hdistinct]
      · rcases hpart with hpart | ⟨hpart, hfirst⟩
        · simp [hparts, hpart, hcount, hdistinct, hempty]
        · simp only [hparts, hpart, hcount, hdistinct, hempty, hfirst]
          decide

/-! ### What a PLACE does (R37, R38) -/

section
variable {source : Member} {f : PlaceFields} {n : StripNo} {s : State} (hacts : s.Acts source)
  (hstrip : f.strip.toNat = n.val)
include hacts hstrip

theorem exec_place_of_taps {taps : List Tap} (h : placeTaps f (s.strip n).staged = some taps) :
    exec (.place source f) s = .next (s.takePlace f n taps) := by
  refine congrArg _ ((State.whenActing_of_acts hacts _).trans ?_)
  simp only [State.actPlace, stripOf_eq_some hstrip, h]

theorem exec_place_malformed (h : placeTaps f (s.strip n).staged = none) : exec (.place source f) s =
    .next ((s.setStrip n { s.strip n with staged := none }).refuse source 0x11#8 f.strip .malformed) := by
  refine congrArg _ ((State.whenActing_of_acts hacts _).trans ?_)
  simp only [State.actPlace, stripOf_eq_some hstrip, h]
  rfl

end

/-- R37: a complete placement, of part 1 alone or of the staged part 1 and part 2, is committed and nothing stays staged. -/
theorem State.takePlace_complete {f : PlaceFields} {n : StripNo} {taps whole : List Tap} {s : State}
    (h : (f.part = 1#8 ∧ f.parts = 1#8 ∧ whole = taps) ∨ (f.part = 2#8 ∧ f.parts = 2#8 ∧
      ∃ first, (s.strip n).staged = some first ∧ whole = first ++ taps)) :
    s.takePlace f n taps = (s.setStrip n { s.strip n with staged := none }).commit n whole := by
  rcases h with ⟨hpart, hparts, rfl⟩ | ⟨hpart, hparts, first, hstaged, rfl⟩
  · simp only [State.takePlace, hparts, if_true]
  · rw [State.takePlace, if_neg (by rw [hparts]; decide), if_neg (by rw [hpart]; decide), hstaged]
    rfl

section
variable {n : StripNo} {s : State} (whole : List Tap)

/-- R38: the incoming placement of a swap that is pending is replaced. -/
theorem State.commit_pending (h : (s.strip n).swapPending = true) :
    s.commit n whole = s.setStrip n { s.strip n with incoming := some whole } := by
  rw [State.commit, if_pos h]

/-- R38: a strip at 0 takes the placement at once. -/
theorem State.commit_silent (hswap : (s.strip n).swapPending = false) (hzero : (s.strip n).ramp.applied = 0) :
    s.commit n whole = s.setStrip n { s.strip n with
      placement := whole
      ramp := (s.strip n).ramp.retarget ((s.strip n).target s.census.soloActive s.engine.activeMutes) 96 } := by
  rw [State.commit, if_neg (by simp [hswap]), if_pos hzero]
  rfl

/-- R38, R40: otherwise the strip falls to 0 with the placement incoming. -/
theorem State.commit_dip (hswap : (s.strip n).swapPending = false) (hsounds : (s.strip n).ramp.applied ≠ 0) :
    s.commit n whole = s.setStrip n { s.strip n with
      incoming := some whole, swapPending := true, ramp := (s.strip n).ramp.retarget 0 96 } := by
  rw [State.commit, if_neg (by simp [hswap]), if_neg hsounds, State.setRetargeted, State.retargeted, Strip.retarget_eq]
  simp only [Strip.target, Strip.zeroCause, Bool.or_true, if_true]
  rfl

end

/-- Settles O34: a PLACE is well formed or not by `placeTaps`, and a well-formed one is staged or committed. -/
theorem placeStagesOrCommitsAPlacement : Obligations.PlaceStagesOrCommitsAPlacement := by
  intro source f n s hacts hstrip
  refine ⟨fun taps hcount hlanes hcarried => ?_, fun hmalformed => ?_⟩
  · have htaps : tapsOf (carriedTaps f) = some taps := tapsOf_eq_some_iff.mpr hcarried
    have hempty : taps ≠ [] → f.count ≠ 0#8 := mt (tapsOf_eq_nil_iff hcount htaps).mpr
    refine ⟨fun hpart hparts hsome => ?_, fun whole hform => ?_⟩
    · rw [exec_place_of_taps hacts hstrip
        (placeTaps_eq_some_iff.mpr ⟨htaps, hcount, hlanes, .inr ⟨hparts, hempty hsome, .inl hpart⟩⟩),
        State.takePlace, if_neg (by rw [hparts]; decide), if_pos hpart]
    · have hplace : placeTaps f (s.strip n).staged = some taps := by
        refine placeTaps_eq_some_iff.mpr ⟨htaps, hcount, hlanes, ?_⟩
        rcases hform with ⟨hpart, hparts, -⟩ | ⟨hpart, hparts, hsome, hwhole, first, hstaged, rfl⟩
        · exact .inl ⟨hparts, hpart⟩
        · exact .inr ⟨hparts, hempty hsome, .inr ⟨hpart, first, hstaged, hwhole⟩⟩
      have hcomplete : s.takePlace f n taps = (s.setStrip n { s.strip n with staged := none }).commit n whole :=
        State.takePlace_complete (hform.imp_right fun ⟨hpart, hparts, _, _, hfirst⟩ => ⟨hpart, hparts, hfirst⟩)
      rw [exec_place_of_taps hacts hstrip hplace, hcomplete]
      have hnamed : (s.setStrip n { s.strip n with staged := none }).strip n = { s.strip n with staged := none } :=
        State.strip_setStrip_same ..
      refine ⟨fun hswap => ?_, fun hswap hzero => ?_, fun hswap hsounds => ?_⟩
      · rw [State.commit_pending whole (by rw [hnamed]; exact hswap), hnamed, State.setStrip_setStrip]
      · rw [State.commit_silent whole (by rw [hnamed]; exact hswap) (by rw [hnamed]; exact hzero), hnamed,
          State.setStrip_setStrip]
        rfl
      · rw [State.commit_dip whole (by rw [hnamed]; exact hswap) (by rw [hnamed]; exact hsounds), hnamed,
          State.setStrip_setStrip]
  · refine exec_place_malformed hacts hstrip (Option.eq_none_iff_forall_ne_some.mpr fun taps hplace => ?_)
    obtain ⟨htaps, hcount, hlanes, hform⟩ := placeTaps_eq_some_iff.mp hplace
    rcases hmalformed with hparts | hpart | hpart | hfour | hempty | ⟨x, hx, hlane⟩ | hlane | ⟨hparts, hpart, hstaged⟩
    · exact hform.elim (fun h => hparts.1 h.1) fun h => hparts.2 h.1
    · exact hform.elim (fun h => hpart.1 h.2) fun h => h.2.2.elim hpart.1 fun h => hpart.2 h.1
    · rw [hpart.1, hpart.2] at hform
      simp at hform
    · exact absurd hcount (Nat.not_le.mpr hfour)
    · rw [hempty.1, hempty.2] at hform
      simp at hform
    · obtain ⟨tap, -, htap⟩ := tapsOf_mem htaps hx
      have := tap.lane.isLt
      omega
    · exact hlane (tapsOf_nodup htaps hlanes)
    · rw [hparts, hpart] at hform
      rcases hform with ⟨h, -⟩ | ⟨-, -, h | ⟨-, first, hfirst, hwhole⟩⟩
      · exact absurd h (by decide)
      · exact absurd h (by decide)
      · rcases hstaged with hnone | ⟨first', hfirst', tap, htap, x, hx, hsame⟩
        · rw [hnone] at hfirst
          cases hfirst
        · obtain rfl : first = first' := Option.some.inj (hfirst.symm.trans hfirst')
          obtain ⟨tap', htap', hlane'⟩ := tapsOf_mem htaps hx
          rw [List.map_append] at hwhole
          exact hwhole.disjoint (List.mem_map_of_mem htap)
            (Fin.ext (hlane'.trans hsame) ▸ List.mem_map_of_mem htap')

end Sys2Proof.Machine
end

section
/-! O32: STRIP SET for one strip. -/

namespace Sys2Proof.Machine

open Sys2Proof

/-! ### The record a STRIP SET writes (R27 to R32) -/

/-- R29: the record after the glide field. -/
def Strip.withGlide (f : StripSetFields) (st : Strip) : Strip :=
  { st with glide := if maskBit f.mask 0 then clampNat 48 48000 f.glide.toNat else st.glide }

/-- R30: the record after the link group field. -/
def Strip.withLink (f : StripSetFields) (st : Strip) : Strip :=
  { st with linkGroup := if maskBit f.mask 1 then linkField f.group else st.linkGroup }

/-- R31: the record after the mode field. -/
def Strip.withMode (f : StripSetFields) (st : Strip) : Strip :=
  match modeOf f.mode with
  | some m => if maskBit f.mask 2 ∧ m ≠ st.mode then st.changeMode m else st
  | none => st

/-- R27: the record after the last field, its target not yet recomputed. -/
def Strip.written (f : StripSetFields) (st : Strip) : Strip :=
  (((st.withGlide f).withLink f).withMode f).setPlainFields f

/-- R27: the record a STRIP SET leaves. -/
def Strip.stripSet (soloActive : Bool) (active : BitVec 16) (f : StripSetFields) (st : Strip) : Strip :=
  match stripSetLength active st (st.written f) with
  | some length => (st.written f).retarget soloActive active length
  | none => st.written f

/-- R30: the group whose lead the link group field may release. -/
def Strip.leaves (f : StripSetFields) (st : Strip) : Option GroupNo :=
  if (st.withLink f).linkGroup = st.linkGroup then none else st.linkGroup

/-- R31 case 5: the group whose lead the mode field may release. -/
def Strip.leavesByRead (f : StripSetFields) (st : Strip) : Option GroupNo :=
  if (st.withMode f).mode = .read ∧ st.mode ≠ .read then st.linkGroup else none

/-! ### Releasing a lead (R138) -/

/-- A release changes the Group Table, the queue and the node's vector; nothing else. -/
theorem State.releaseIfLead_cases (group : Option GroupNo) (n : StripNo) (s : State) : ∃ groups queue drops vectors,
    s.releaseIfLead group n = { s with
      groups := groups, message.outbound := queue, message.counters.outboundDrop := drops, reports.vectors := vectors } := by
  unfold State.releaseIfLead
  split
  · split
    · rw [State.releaseLead, State.handOn_eq, State.announce, State.offer_eq]
      exact ⟨_, _, _, _, rfl⟩
    · exact ⟨_, _, _, _, rfl⟩
  · exact ⟨_, _, _, _, rfl⟩

section
variable (group : Option GroupNo) (n : StripNo) (s : State)

@[simp] theorem State.releaseIfLead_clock : (s.releaseIfLead group n).clock = s.clock := by
  obtain ⟨groups, queue, drops, vectors, h⟩ := s.releaseIfLead_cases group n
  rw [h]

@[simp] theorem State.releaseIfLead_engine : (s.releaseIfLead group n).engine = s.engine := by
  obtain ⟨groups, queue, drops, vectors, h⟩ := s.releaseIfLead_cases group n
  rw [h]

@[simp] theorem State.releaseIfLead_census : (s.releaseIfLead group n).census = s.census := by
  obtain ⟨groups, queue, drops, vectors, h⟩ := s.releaseIfLead_cases group n
  rw [h]

@[simp] theorem State.strip_releaseIfLead (k : StripNo) : (s.releaseIfLead group n).strip k = s.strip k := by
  rw [State.strip, State.releaseIfLead_engine]
  rfl

end

/-- A strip that does not lead the group it leaves releases nothing. -/
theorem State.releaseIfLead_of_not_lead {group : Option GroupNo} {n : StripNo} {s : State}
    (h : ∀ g ∈ group, s.leads g n = false) : s.releaseIfLead group n = s := by
  cases group with
  | none => rfl
  | some g => rw [State.releaseIfLead, h g rfl]; rfl

theorem State.releaseIfLead_of_leads {g : GroupNo} {n : StripNo} {s : State} (h : s.leads g n = true) :
    s.releaseIfLead (some g) n = s.releaseLead g n := by
  rw [State.releaseIfLead, h]; rfl

/-! ### STRIP SET field by field -/

section
variable (f : StripSetFields) (n : StripNo) (s : State)

theorem State.setGlideField_eq : s.setGlideField f n = s.setStrip n ((s.strip n).withGlide f) := by
  rw [State.setGlideField, Strip.withGlide]
  split
  · rfl
  · exact (State.setStrip_self n s).symm

theorem State.setLinkField_eq : s.setLinkField f n =
    (s.setStrip n ((s.strip n).withLink f)).releaseIfLead ((s.strip n).leaves f) n := by
  rw [State.setLinkField, Strip.leaves, Strip.withLink]
  by_cases hmask : maskBit f.mask 1 = true
  · by_cases hsame : linkField f.group = (s.strip n).linkGroup
    · simp only [hmask, hsame, ne_eq, not_true, and_false, if_false, if_true]
      exact (State.setStrip_self n s).symm
    · simp only [hmask, hsame, ne_eq, not_false_eq_true, and_self, if_true, if_false]
  · simp only [hmask, false_and, if_false, if_true, Bool.false_eq_true]
    exact (State.setStrip_self n s).symm

/-- R31: what a change of mode leaves of a record. -/
theorem Strip.changeMode_eq (m : Mode) (st : Strip) : st.changeMode m = { st with
    mode := m
    latched := false
    live := if m = .manual ∨ ((m = .touch ∨ m = .latch) ∧ st.touched = true) then st.effective else st.live } := by
  have hforce : ({ st with mode := m, latched := false } : Strip).liveInForce =
      decide (m = .manual ∨ ((m = .touch ∨ m = .latch) ∧ st.touched = true)) := by cases m <;> simp [Strip.liveInForce]
  rw [Strip.changeMode, hforce]
  by_cases h : m = .manual ∨ ((m = .touch ∨ m = .latch) ∧ st.touched = true) <;> simp only [h, decide_true, decide_false,
    if_true, if_false, Bool.false_eq_true]

theorem Strip.changeMode_mode (m : Mode) (st : Strip) : (st.changeMode m).mode = m := by rw [Strip.changeMode_eq]

/-- R31: the mode field changes nothing where it names no mode or the one in force. -/
theorem Strip.withMode_kept {f : StripSetFields} {st : Strip}
    (h : ∀ m, modeOf f.mode = some m → ¬(maskBit f.mask 2 = true ∧ m ≠ st.mode)) : st.withMode f = st := by
  unfold Strip.withMode
  split
  · rename_i m hm
    exact if_neg (h m hm)
  · rfl

theorem Strip.withMode_changed {f : StripSetFields} {st : Strip} {m : Mode} (hm : modeOf f.mode = some m)
    (h : maskBit f.mask 2 = true ∧ m ≠ st.mode) : st.withMode f = st.changeMode m := by
  rw [Strip.withMode, hm]
  exact if_pos h

theorem State.setModeField_eq : s.setModeField f n =
    (s.setStrip n ((s.strip n).withMode f)).releaseIfLead ((s.strip n).leavesByRead f) n := by
  by_cases hkept : ∀ m, modeOf f.mode = some m → ¬(maskBit f.mask 2 = true ∧ m ≠ (s.strip n).mode)
  · rw [Strip.leavesByRead, Strip.withMode_kept hkept, if_neg fun h => h.2 h.1, State.setStrip_self, State.setModeField]
    split
    · rename_i m hm
      exact if_neg (hkept m hm)
    · rfl
  · simp only [not_forall, not_not] at hkept
    obtain ⟨m, hm, hchange⟩ := hkept
    rw [Strip.leavesByRead, Strip.withMode_changed hm hchange, Strip.changeMode_mode, State.setModeField, hm]
    dsimp only
    rw [if_pos hchange]
    by_cases hread : m = .read
    · rw [if_pos hread, if_pos ⟨hread, fun e => hchange.2 (hread.trans e.symm)⟩]
    · rw [if_neg hread, if_neg fun h => hread h.1]
      rfl

/-- R27: a STRIP SET is its record, written between the releases of a lead that the link group and mode fields bring about. -/
theorem State.applyStripSet_eq : s.applyStripSet f n =
    ((((s.setStrip n (((s.strip n).withGlide f).withLink f)).releaseIfLead ((s.strip n).leaves f) n).setStrip n
      ((((s.strip n).withGlide f).withLink f).withMode f)).releaseIfLead
        ((((s.strip n).withGlide f).withLink f).leavesByRead f) n).setStrip n
          ((s.strip n).stripSet s.census.soloActive s.engine.activeMutes f) := by
  have hlinked : (s.setGlideField f n).setLinkField f n =
      (s.setStrip n (((s.strip n).withGlide f).withLink f)).releaseIfLead ((s.strip n).leaves f) n := by
    rw [State.setLinkField_eq, State.setGlideField_eq, State.strip_setStrip_same, State.setStrip_setStrip]
    rfl
  rw [State.applyStripSet, hlinked]
  generalize hx : (s.setStrip n (((s.strip n).withGlide f).withLink f)).releaseIfLead ((s.strip n).leaves f) n = x
  have hnamed : x.strip n = ((s.strip n).withGlide f).withLink f := by
    rw [← hx, State.strip_releaseIfLead, State.strip_setStrip_same]
  rw [State.setModeField_eq, hnamed, State.strip_releaseIfLead, State.strip_setStrip_same]
  have hlength : stripSetLength s.engine.activeMutes (((s.strip n).withGlide f).withLink f)
      (((((s.strip n).withGlide f).withLink f).withMode f).setPlainFields f) =
      stripSetLength s.engine.activeMutes (s.strip n) ((s.strip n).written f) := rfl
  rw [hlength, Strip.stripSet]
  cases stripSetLength s.engine.activeMutes (s.strip n) ((s.strip n).written f) with
  | none => rfl
  | some length =>
    dsimp only
    rw [State.setRetargeted, State.retargeted, State.releaseIfLead_census, State.releaseIfLead_engine, State.setStrip_census,
      State.setStrip_engine_activeMutes, ← hx, State.releaseIfLead_census, State.releaseIfLead_engine]
    rfl

end

/-! ### The fields of the record -/

section
variable (f : StripSetFields) (st : Strip)

/-- What the mode field leaves of a record: latched is clear after a change of mode, and the live level takes the effective
fader where the change brings it into force. -/
theorem Strip.withMode_eq : st.withMode f = { st with
    mode := (st.withMode f).mode
    latched := st.latched && decide ((st.withMode f).mode = st.mode)
    live := if (st.withMode f).mode ≠ st.mode ∧ ((st.withMode f).mode = .manual ∨
        (((st.withMode f).mode = .touch ∨ (st.withMode f).mode = .latch) ∧ st.touched = true)) then st.effective
      else st.live } := by
  by_cases hkept : ∀ m, modeOf f.mode = some m → ¬(maskBit f.mask 2 = true ∧ m ≠ st.mode)
  · simp [Strip.withMode_kept hkept]
  · simp only [not_forall, not_not] at hkept
    obtain ⟨m, hm, hchange⟩ := hkept
    rw [Strip.withMode_changed hm hchange, Strip.changeMode_eq]
    simp [hchange.2]

theorem Strip.withMode_mode {m : Mode} (hm : modeOf f.mode = some m) :
    (st.withMode f).mode = if maskBit f.mask 2 then m else st.mode := by
  rw [Strip.withMode, hm]
  dsimp only
  by_cases hmask : maskBit f.mask 2 = true
  · by_cases hsame : m = st.mode
    · simp [hsame]
    · simp [hmask, hsame, Strip.changeMode_mode]
  · simp [hmask]

theorem Strip.withMode_mode_of_not (hmask : maskBit f.mask 2 = false) : (st.withMode f).mode = st.mode := by
  rw [Strip.withMode_kept]
  simp [hmask]

/-- R27 to R32: every field of the record after the last field of a STRIP SET. -/
theorem Strip.written_eq {m : Mode} (hm : m = (((st.withGlide f).withLink f).withMode f).mode) : st.written f = { st with
    glide := if maskBit f.mask 0 then clampNat 48 48000 f.glide.toNat else st.glide
    linkGroup := if maskBit f.mask 1 then linkField f.group else st.linkGroup
    mode := m
    latched := st.latched && decide (m = st.mode)
    live := if m ≠ st.mode ∧ (m = .manual ∨ ((m = .touch ∨ m = .latch) ∧ st.touched = true)) then st.effective else st.live
    trim := if maskBit f.mask 3 then clamp (-200) 200 f.trim.toInt else st.trim
    cut := if maskBit f.mask 4 then yes f.cut else st.cut
    mutes := if maskBit f.mask 5 then f.mutes else st.mutes
    safe := if maskBit f.mask 6 then yes f.safe else st.safe } := by
  subst hm
  rw [Strip.written, Strip.withMode_eq f ((st.withGlide f).withLink f)]
  rfl

end

/-! ### The target (R42, R44, R45) -/

theorem Strip.target_eq (soloActive : Bool) (active : BitVec 16) (st : Strip) : st.target soloActive active =
    if st.cut = true ∨ st.mutes &&& active ≠ 0#16 ∨ (soloActive = true ∧ st.soloed = false ∧ st.safe = false) ∨
      st.swapPending = true then 0
    else coef (max (-1440) (min 120 (st.effective + st.trim + st.offset))) := by
  have hcause : st.zeroCause soloActive active = true ↔ st.cut = true ∨ st.mutes &&& active ≠ 0#16 ∨
      (soloActive = true ∧ st.soloed = false ∧ st.safe = false) ∨ st.swapPending = true := by
    simp [Strip.zeroCause, Strip.muted, or_assoc, and_assoc]
  rw [Strip.target, if_congr hcause rfl rfl]
  rfl

/-- R27: the length of the recomputation, by the last field that changed. -/
theorem stripSetLength_eq (active : BitVec 16) (before after : Strip) : stripSetLength active before after =
    if after.safe ≠ before.safe ∨ after.muted active ≠ before.muted active ∨ after.cut ≠ before.cut then some 96
    else if after.trim ≠ before.trim then some 240
    else if after.effective ≠ before.effective then some after.glide
    else none := by
  rw [stripSetLength]
  split_ifs <;> simp_all [shortRamp, moveRamp]

/-- R45: a STRIP SET that changes none of the target's inputs leaves the target. -/
theorem Strip.written_target {soloActive : Bool} {active : BitVec 16} {f : StripSetFields} {st : Strip}
    (h : stripSetLength active st (st.written f) = none) :
    (st.written f).target soloActive active = st.target soloActive active := by
  have hkept := Strip.written_eq f st rfl
  have hsoloed : (st.written f).soloed = st.soloed := by rw [hkept]
  have hswap : (st.written f).swapPending = st.swapPending := by rw [hkept]
  have hoffset : (st.written f).offset = st.offset := by rw [hkept]
  rw [stripSetLength_eq] at h
  split_ifs at h with hshort htrim heffective
  simp only [not_or, not_not] at hshort htrim heffective
  obtain ⟨hsafe, hmuted, hcut⟩ := hshort
  rw [Strip.target, Strip.target, Strip.zeroCause, Strip.zeroCause, Strip.summed, Strip.summed, hsafe, hmuted, hcut, htrim,
    heffective, hsoloed, hswap, hoffset]

/-- R27: the record a STRIP SET leaves of a strip whose target was what its fields gave. -/
theorem Strip.stripSet_eq {soloActive : Bool} {active : BitVec 16} {f : StripSetFields} {st : Strip}
    (h : st.ramp.target = st.target soloActive active) : st.stripSet soloActive active f = { st.written f with
      ramp := st.ramp.retarget ((st.written f).target soloActive active)
        (if (st.written f).safe ≠ st.safe ∨ (st.written f).muted active ≠ st.muted active ∨ (st.written f).cut ≠ st.cut then 96
        else if (st.written f).trim ≠ st.trim then 240 else (st.written f).glide) } := by
  have hramp : (st.written f).ramp = st.ramp := by rw [Strip.written_eq f st rfl]
  rw [Strip.stripSet]
  cases hlength : stripSetLength active st (st.written f) with
  | none =>
    rw [Strip.written_target hlength, ← h, Ramp.retarget_eq_self, ← hramp]
  | some length =>
    rw [← hramp]
    rw [stripSetLength_eq] at hlength
    split_ifs at hlength with hshort htrim heffective
    · cases hlength
      rw [if_pos hshort]
      rfl
    · cases hlength
      rw [if_neg hshort, if_pos htrim]
      rfl
    · cases hlength
      rw [if_neg hshort, if_neg htrim]
      rfl

/-! ### What a release leaves (R135, R138) -/

/-- What an offer latches depends on the Message Unit and the vectors alone. -/
theorem State.offer_reports_congr {s t : State} (m : OutMsg) (hmessage : s.message = t.message)
    (hreports : s.reports = t.reports) : (s.offer m).reports = (t.offer m).reports := by
  unfold State.offer
  rw [hmessage]
  split
  · exact hreports
  · split
    · exact hreports
    · simp only [State.latchNode, State.latch, State.count_reports, hreports]

@[simp] theorem State.group_announce (b : Body) (s : State) (g : GroupNo) : (s.announce b).group g = s.group g := by
  rw [State.announce, State.group, State.offer_groups]
  rfl

theorem State.group_handOn_of_ne {g h : GroupNo} (hne : h ≠ g) (s : State) : (s.handOn g).group h = s.group h := by
  unfold State.handOn
  split
  · rw [State.takeLead, State.group_announce, State.group_setGroup, if_neg hne.symm]
  · rfl

/-- What the release of strip `n`'s lead of group `g` leaves, `s` being the state before the command: the entry and its mark are
cleared and the release offered, and the lowest waiter takes the lead with a claim. -/
structure State.Released (s t : State) (g : GroupNo) (n : StripNo) : Prop where
  others : ∀ h : GroupNo, h ≠ g → t.group h = s.group h
  unclaimed : (∀ k : StripNo, k ≠ n → s.isWaiter g k = false) → ∀ r : State, r = s.announce (.release g n) →
    t.group g = { lead := none, silent := 0, mark := false } ∧ t.message = r.message ∧ t.reports = r.reports
  claimed : ∀ k : StripNo, k ≠ n → s.isWaiter g k = true →
    (∀ lower : StripNo, lower ≠ n → lower < k → s.isWaiter g lower = false) →
    ∀ r : State, r = (s.announce (.release g n)).announce (.claim g k) →
      t.group g = { lead := some { member := s.clock.member, strip := k }, silent := 0, mark := false } ∧
      t.message = r.message ∧ t.reports = r.reports

/-- R138: the release of a lead whose strip, in its new record, does not wait for the group. -/
theorem State.releaseLead_released {s : State} {g : GroupNo} {n : StripNo} {b : Strip} (hleads : s.leads g n = true)
    (hgone : b.linkGroup ≠ some g ∨ b.mode = .read) : s.Released ((s.setStrip n b).releaseLead g n) g n := by
  rw [State.releaseLead]
  generalize hx : State.announce _ _ = x
  have hmessage : x.message = (s.announce (.release g n)).message := hx ▸ State.offer_message_congr _ rfl
  have hreports : x.reports = (s.announce (.release g n)).reports := hx ▸ State.offer_reports_congr _ rfl rfl
  have hclock : x.clock = s.clock := by rw [← hx, State.announce, State.offer_clock]; rfl
  have hstrip (k : StripNo) : x.strip k = if n = k then b else s.strip k := by
    rw [← hx, State.announce, State.strip_offer, State.strip_setGroup, State.strip_setStrip]
  have hgroup : x.group g = { lead := none, silent := 0, mark := false } := by
    rw [← hx, State.group_announce, State.group_setGroup_same]
    rfl
  have hwaits {k : StripNo} (hk : k ≠ n) : x.isWaiter g k = s.isWaiter g k :=
    State.isWaiter_congr (by rw [hstrip, if_neg hk.symm])
      (by rw [State.leads_eq_false_of_ne hleads hk, State.leads, hgroup]; rfl)
  have hself : x.isWaiter g n = false := by
    rw [State.isWaiter, State.isMember, hstrip, if_pos rfl]
    rcases hgone with h | h <;> simp [h]
  refine ⟨fun h hne => ?_, fun hnone r hr => ?_, fun k hk hwaiter hlow r hr => ?_⟩
  · rw [State.group_handOn_of_ne hne, ← hx, State.group_announce, State.group_setGroup, if_neg hne.symm, State.group_setStrip]
  · rw [State.handOn_of_none fun k => ?_, hr]
    · exact ⟨hgroup, hmessage, hreports⟩
    · by_cases hk : k = n
      · exact hk ▸ hself
      · exact (hwaits hk).trans (hnone k hk)
  · rw [State.handOn_of_waiter ((hwaits hk).trans hwaiter) fun lower hlt => ?_, State.takeLead, hr]
    · refine ⟨?_, State.offer_message_congr _ hmessage, State.offer_reports_congr _ hmessage hreports⟩
      rw [State.group_announce, State.group_setGroup_same, hgroup, State.ownKey, hclock]
    · by_cases hl : lower = n
      · exact hl ▸ hself
      · exact (hwaits hl).trans (hlow lower hl hlt)

section
variable {f : StripSetFields} {n : StripNo} {s : State} {g : GroupNo}

/-- A STRIP SET on a strip that leads no group it leaves writes its record and releases nothing. -/
theorem State.applyStripSet_of_keeps (hleaves : ∀ g ∈ (s.strip n).leaves f, s.leads g n = false)
    (hread : ∀ g ∈ (((s.strip n).withGlide f).withLink f).leavesByRead f, s.leads g n = false) :
    s.applyStripSet f n = s.setStrip n ((s.strip n).stripSet s.census.soloActive s.engine.activeMutes f) := by
  rw [State.applyStripSet_eq, State.releaseIfLead_of_not_lead (s := s.setStrip n _) hleaves, State.setStrip_setStrip,
    State.releaseIfLead_of_not_lead (s := s.setStrip n _) hread, State.setStrip_setStrip]

/-- R30: a lead that leaves its group releases it, and no other. -/
theorem State.applyStripSet_leaves (hgroup : (s.strip n).linkGroup = some g) (hleads : s.leads g n = true)
    (hothers : ∀ h : GroupNo, h ≠ g → s.leads h n = false) (hleaves : ((s.strip n).withLink f).linkGroup ≠ some g) :
    s.Released (s.applyStripSet f n) g n := by
  have hfirst : (s.strip n).leaves f = some g := by rw [Strip.leaves, hgroup, if_neg hleaves]
  rw [State.applyStripSet_eq, hfirst, State.releaseIfLead_of_leads (s := s.setStrip n _) hleads]
  have hreleased := State.releaseLead_released (b := ((s.strip n).withGlide f).withLink f) hleads (.inl hleaves)
  have hclock : ((s.setStrip n (((s.strip n).withGlide f).withLink f)).releaseLead g n).clock = s.clock := by
    rw [← State.releaseIfLead_of_leads (s := s.setStrip n _) hleads, State.releaseIfLead_clock]
    rfl
  generalize (s.setStrip n (((s.strip n).withGlide f).withLink f)).releaseLead g n = x at hreleased hclock ⊢
  rw [State.releaseIfLead_of_not_lead]
  · exact ⟨hreleased.others, hreleased.unclaimed, hreleased.claimed⟩
  · intro h hh
    have hne : h ≠ g := by
      rintro rfl
      unfold Strip.leavesByRead at hh
      split at hh
      · exact hleaves hh
      · cases hh
    have hsame : x.leads h n = s.leads h n := by
      rw [State.leads, State.leads, hreleased.others h hne, State.ownKey, hclock, State.ownKey]
    exact hsame.trans (hothers h hne)

/-- R31 case 5: a lead that enters READ releases its group. -/
theorem State.applyStripSet_enters_read (hgroup : (s.strip n).linkGroup = some g) (hleads : s.leads g n = true)
    (hstays : ((s.strip n).withLink f).linkGroup = some g)
    (hread : ((((s.strip n).withGlide f).withLink f).withMode f).mode = .read) (hwas : (s.strip n).mode ≠ .read) :
    s.Released (s.applyStripSet f n) g n := by
  have hfirst : (s.strip n).leaves f = none := by rw [Strip.leaves, hgroup, if_pos hstays]
  have hsecond : (((s.strip n).withGlide f).withLink f).leavesByRead f = some g := by
    rw [Strip.leavesByRead, if_pos ⟨hread, hwas⟩]
    exact hstays
  rw [State.applyStripSet_eq, hfirst, hsecond, State.releaseIfLead_of_not_lead (group := none) (by simp),
    State.setStrip_setStrip, State.releaseIfLead_of_leads (s := s.setStrip n _) hleads]
  have hreleased := State.releaseLead_released (b := (((s.strip n).withGlide f).withLink f).withMode f) hleads (.inr hread)
  exact ⟨hreleased.others, hreleased.unclaimed, hreleased.claimed⟩

end

/-- A STRIP SET reaches the strips, the Group Table, the queue and the node's vector; nothing else. -/
theorem State.applyStripSet_frame (f : StripSetFields) (n : StripNo) (s : State) : s.applyStripSet f n = { s with
    engine.strips := (s.applyStripSet f n).engine.strips
    groups := (s.applyStripSet f n).groups
    message.outbound := (s.applyStripSet f n).message.outbound
    message.counters.outboundDrop := (s.applyStripSet f n).message.counters.outboundDrop
    reports.vectors := (s.applyStripSet f n).reports.vectors } := by
  rw [State.applyStripSet_eq]
  obtain ⟨_, _, _, _, hfirst⟩ := State.releaseIfLead_cases ((s.strip n).leaves f) n
    (s.setStrip n (((s.strip n).withGlide f).withLink f))
  rw [hfirst]
  generalize hmoded : State.setStrip n ((((s.strip n).withGlide f).withLink f).withMode f) _ = x
  obtain ⟨_, _, _, _, hsecond⟩ := State.releaseIfLead_cases ((((s.strip n).withGlide f).withLink f).leavesByRead f) n x
  rw [hsecond, ← hmoded]
  rfl

theorem State.strip_applyStripSet (f : StripSetFields) (n : StripNo) (s : State) (k : StripNo) :
    (s.applyStripSet f n).strip k =
      if n = k then (s.strip n).stripSet s.census.soloActive s.engine.activeMutes f else s.strip k := by
  rw [State.applyStripSet_eq, State.strip_setStrip]
  by_cases hk : n = k
  · rw [if_pos hk, if_pos hk]
  · rw [if_neg hk, if_neg hk, State.strip_releaseIfLead, State.strip_setStrip_ne _ hk, State.strip_releaseIfLead,
      State.strip_setStrip_ne _ hk]

/-! ### The fields carried (R26, R28, R100) -/

theorem linkField_eq_none {b : Byte} (h : b.toNat = 0) : linkField b = none := dif_pos h

/-- R28: a group above 32 is taken as 32. -/
theorem linkField_eq_some {b : Byte} {g : GroupNo} (hlow : 1 ≤ b.toNat) (hg : g.val + 1 = min 32 b.toNat) :
    linkField b = some g := by
  rw [linkField, dif_neg (by omega), Option.some.injEq, Fin.ext_iff]
  show min 32 b.toNat - 1 = g.val
  omega

theorem modeOf_eq_none {b : Byte} (h : 4 ≤ b.toNat) : modeOf b = none := by
  have hne (k : Byte) (hk : k.toNat < 4) : b ≠ k := by
    rintro rfl
    omega
  rw [modeOf, if_neg (hne _ (by decide)), if_neg (hne _ (by decide)), if_neg (hne _ (by decide)), if_neg (hne _ (by decide))]

/-- The mode codes of R100. -/
theorem byte_lt_four {b : Byte} (h : b.toNat < 4) : b = 0#8 ∨ b = 1#8 ∨ b = 2#8 ∨ b = 3#8 := by bv_omega

theorem modeOf_ne_none {b : Byte} (h : b.toNat < 4) : modeOf b ≠ none := by
  rcases byte_lt_four h with rfl | rfl | rfl | rfl <;> decide

/-- R26: a STRIP SET that names no mode, or one of the four, goes by its strip field. -/
theorem State.actStripSet_of_mode {source : Member} {f : StripSetFields} (hmode : f.mask.getLsbD 2 = true → f.mode.toNat < 4)
    (s : State) : s.actStripSet source f = s.stripsCommand source kindStripSet f.strip (State.applyStripSet f) :=
  if_neg fun h => modeOf_ne_none (hmode h.1) h.2

theorem State.actStripSet_of_no_mode {source : Member} {f : StripSetFields} (hmask : f.mask.getLsbD 2 = true)
    (hmode : 4 ≤ f.mode.toNat) (s : State) : s.actStripSet source f = s.refuse source kindStripSet f.strip .malformed :=
  if_pos ⟨hmask, modeOf_eq_none hmode⟩

theorem exec_stripSet {source : Member} {f : StripSetFields} {n : StripNo} {s : State} (hacts : s.Acts source)
    (hstrip : f.strip.toNat = n.val) (hmode : f.mask.getLsbD 2 = true → f.mode.toNat < 4) :
    exec (.stripSet source f) s = .next (s.applyStripSet f n) := by
  refine congrArg _ ((State.whenActing_of_acts hacts _).trans ?_)
  rw [State.actStripSet_of_mode hmode, State.stripsCommand, if_neg (ne_allStrips hstrip), State.stripCommand,
    stripOf_eq_some hstrip]

/-- Settles O32: the record by its fields, its target and its ramp, and the Group Table by whether the strip leads a group that
it leaves. -/
theorem stripSetWritesTheNamedFields : Obligations.StripSetWritesTheNamedFields := by
  intro source f n s hacts hstrip htargets hmode
  have hrecord := State.strip_applyStripSet f n s n
  rw [if_pos rfl, Strip.stripSet_eq (htargets n)] at hrecord
  obtain ⟨m, hm⟩ : ∃ m, m = ((((s.strip n).withGlide f).withLink f).withMode f).mode := ⟨_, rfl⟩
  have hfields := Strip.written_eq f (s.strip n) hm
  generalize (s.strip n).written f = w at hrecord hfields
  have hlink : w.linkGroup = ((s.strip n).withLink f).linkGroup := by rw [hfields]; rfl
  have hmode' : w.mode = m := by rw [hfields]
  refine ⟨_, _, _, exec_stripSet hacts hstrip hmode, rfl, rfl, State.applyStripSet_frame f n s, fun k hk => ?_, ?_⟩
  · rw [State.strip_applyStripSet, if_neg hk.symm]
  · rw [hrecord]
    refine ⟨?_, congrArg Strip.glide hfields, fun hmask => ?_, fun hmask hzero => ?_, fun g hmask hlow hg => ?_, ?_,
      ?_, ?_, congrArg Strip.trim hfields, congrArg Strip.cut hfields, congrArg Strip.mutes hfields,
      congrArg Strip.safe hfields, ?_, ?_, ?_, ?_⟩
    · rw [hfields]
    · exact (congrArg Strip.linkGroup hfields).trans (if_neg (Bool.eq_false_iff.mp hmask))
    · exact (congrArg Strip.linkGroup hfields).trans ((if_pos hmask).trans (linkField_eq_none hzero))
    · exact (congrArg Strip.linkGroup hfields).trans ((if_pos hmask).trans (linkField_eq_some hlow hg))
    · refine hmode'.trans (hm.trans ?_)
      cases hmask : f.mask.getLsbD 2 with
      | false => exact Strip.withMode_mode_of_not f _ hmask
      | true =>
        rcases byte_lt_four (hmode hmask) with h | h | h | h <;> rw [h] <;>
          exact (Strip.withMode_mode f _ (by rw [h]; rfl)).trans (if_pos hmask)
    · rw [hfields]
    · rw [hfields]
    · exact (Ramp.retarget_target ..).trans (Strip.target_eq ..)
    · rw [Ramp.retarget_target]
      rfl
    · intro hnone
      rw [State.applyStripSet_of_keeps (fun g _ => hnone g) fun g _ => hnone g]
      exact ⟨rfl, rfl, rfl⟩
    · intro g hgroup hleads hothers
      refine ⟨fun hstays hread => ?_, fun hgoes => ?_⟩
      · have hleaves : (s.strip n).leaves f = none := if_pos (hlink.symm.trans (hstays.trans hgroup.symm))
        have hkept : (((s.strip n).withGlide f).withLink f).leavesByRead f = none :=
          if_neg fun h => hread.elim (fun hne => hne (hmode'.trans (hm.trans h.1))) h.2
        rw [State.applyStripSet_of_keeps (by simp [hleaves]) (by simp [hkept])]
        exact ⟨rfl, rfl, rfl⟩
      · have hreleased : s.Released (s.applyStripSet f n) g n := by
          by_cases hstays : ((s.strip n).withLink f).linkGroup = some g
          · obtain ⟨hread, hwas⟩ := hgoes.resolve_left fun h => h (hlink.trans hstays)
            exact State.applyStripSet_enters_read hgroup hleads hstays (hm.symm.trans (hmode'.symm.trans hread)) hwas
          · exact State.applyStripSet_leaves hgroup hleads hothers hstays
        exact ⟨hreleased.others, hreleased.unclaimed, hreleased.claimed⟩

end Sys2Proof.Machine
end

section
/-! O52: which object a command names. -/

namespace Sys2Proof.Machine

open Sys2Proof

/-! ### Message commands act or not (R85) -/

/-- Every message command is an act of the node that is taken while JOINED and from another member. -/
theorem exec_commandOf {source : Member} {kind : Byte} {p : List Byte} {c : Instr} (h : commandOf source kind p = some c) :
    ∃ act : State → State, ∀ s : State, exec c s = .next (s.whenActing source act) := by
  unfold commandOf at h
  split at h
  case h_15 =>
    split at h
    all_goals cases h
    all_goals exact ⟨_, fun _ => rfl⟩
  all_goals cases h
  all_goals exact ⟨_, fun _ => rfl⟩

/-- What an act that is taken answers. -/
theorem next_whenActing {source : Member} {s t : State} {act : State → State} (hacts : s.Acts source) (h : act s = t) :
    (.next (s.whenActing source act) : Host.Outcome State Fault Refusal) = .next t := by
  rw [State.whenActing_of_acts hacts, h]

/-! ### Fields that name no object (R26, R36, R97, section 8.4) -/

section
variable {source : Member} {field : Byte} {s : State} (kind : Byte)

theorem State.stripCommand_malformed (h : 32 ≤ field.toNat) (act : StripNo → State → State) :
    s.stripCommand source kind field act = s.refuse source kind field .malformed := by
  rw [State.stripCommand, stripOf_eq_none h]

theorem State.stripsCommand_malformed (h : 32 ≤ field.toNat) (hne : field ≠ 255#8) (act : StripNo → State → State) :
    s.stripsCommand source kind field act = s.refuse source kind field .malformed := by
  rw [State.stripsCommand, if_neg hne, State.stripCommand_malformed kind h]

theorem State.unitCommand_malformed (h : 4 ≤ field.toNat) (act : UnitNo → State → State) :
    s.unitCommand source kind field act = s.refuse source kind field .malformed := by
  rw [State.unitCommand, unitOf_eq_none h]

theorem State.soloAnnounced_discarded (h : 32 ≤ field.toNat) (act : Key → State → State) :
    s.soloAnnounced source field act = s := by
  rw [State.soloAnnounced, stripOf_eq_none h]

theorem State.announced_discarded {strip : Byte} (h : field = 0#8 ∨ 33 ≤ field.toNat ∨ 32 ≤ strip.toNat)
    (act : GroupNo → Key → State → State) : s.announced source field strip act = s := by
  rw [State.announced]
  rcases or_assoc.mpr h with hgroup | hstrip
  · rw [groupOf_eq_none hgroup]
  · rw [stripOf_eq_none hstrip]
    cases groupOf field <;> rfl

end

/-! ### All strips in turn -/

/-- A fold of answers, each the next state of the answer before, is the fold of the states. -/
theorem foldl_next {α : Type} {f : Host.Outcome State Fault Refusal → α → Host.Outcome State Fault Refusal}
    {act : State → α → State} {P : State → Prop} (hf : ∀ t a, P t → f (.next t) a = .next (act t a))
    (hP : ∀ t a, P t → P (act t a)) (l : List α) {s : State} (hs : P s) : l.foldl f (.next s) = .next (l.foldl act s) := by
  induction l generalizing s with
  | nil => rfl
  | cons a l ih => rw [List.foldl_cons, List.foldl_cons, hf s a hs, ih (hP s a hs)]

theorem stripByte_toNat (n : StripNo) : (stripByte n).toNat = n.val := by
  rw [stripByte, BitVec.toNat_ofNat]
  omega

/-- A command that may name all strips, and whose act keeps the clock, is at 255 the command for each strip in turn. -/
theorem exec_allStrips {source : Member} {kind : Byte} {act : StripNo → State → State} {command : Byte → Instr} {s : State}
    (hacts : s.Acts source) (hclock : ∀ n t, (act n t).clock = t.clock)
    (hcommand : ∀ strip t, t.Acts source → exec (command strip) t = .next (t.stripsCommand source kind strip act))
    {f : Host.Outcome State Fault Refusal → StripNo → Host.Outcome State Fault Refusal}
    (hf : ∀ t n, f (.next t) n = exec (command (stripByte n)) t) :
    exec (command 255#8) s = (List.finRange 32).foldl f (.next s) := by
  have hone (t : State) (n : StripNo) (ht : t.Acts source) : f (.next t) n = .next (act n t) := by
    rw [hf, hcommand _ _ ht, State.stripsCommand, if_neg (ne_allStrips (stripByte_toNat n)), State.stripCommand,
      stripOf_stripByte]
  have hkeeps (t : State) (n : StripNo) (ht : t.Acts source) : (act n t).Acts source := by
    rw [State.Acts, hclock]
    exact ht
  rw [foldl_next (act := fun t n => act n t) hone hkeeps _ hacts, hcommand _ _ hacts, State.stripsCommand, if_pos rfl]
  rfl

/-! ### The clock through the commands that may name all strips -/

theorem State.applyStripSet_clock (f : StripSetFields) (n : StripNo) (s : State) : (s.applyStripSet f n).clock = s.clock := by
  rw [State.applyStripSet_frame]

theorem State.judgeSolo_clock (s : State) : s.judgeSolo.clock = s.clock := by
  unfold State.judgeSolo
  split
  · rfl
  · exact State.mapStrips_clock ..

theorem State.soloChanged_clock (n : StripNo) (s : State) : (s.soloChanged n).clock = s.clock := by
  unfold State.soloChanged
  split
  · rfl
  · exact State.judgeSolo_clock s

theorem State.soloStrip_clock (n : StripNo) (s : State) : (s.soloStrip n).clock = s.clock := by
  unfold State.soloStrip
  split
  · rfl
  · rw [State.soloChanged_clock, State.announce, State.offer_clock]
    rfl

theorem State.unsoloStrip_clock (n : StripNo) (s : State) : (s.unsoloStrip n).clock = s.clock := by
  unfold State.unsoloStrip
  split
  · rw [State.soloChanged_clock, State.announce, State.offer_clock]
    rfl
  · rfl

/-- Settles O52, kind of field by kind of field. -/
theorem commandsNameOneObjectAllStripsOrNone : Obligations.CommandsNameOneObjectAllStripsOrNone := by
  refine ⟨fun source kind p c s hnot hc => ?_, fun source field x y carried s hacts => ⟨fun hstrip => ?_,
    fun hstrip hne => ?_, fun f hmask hmode => ?_, fun hunit => ?_, fun hgroup => ?_, fun hlane => ?_, fun hnone => ?_⟩,
    fun source x f s hacts hstrip hmode command hcommand => ?_⟩
  · obtain ⟨act, hact⟩ := exec_commandOf hc
    rw [hact, State.whenActing_of_not_acts hnot]
  · have hcommand (kind : Byte) := State.stripCommand_malformed (source := source) (s := s) kind hstrip
    have hsolo := State.soloAnnounced_discarded (source := source) (s := s) hstrip
    refine ⟨?_, ?_, next_whenActing hacts (hcommand _ _), next_whenActing hacts (hcommand _ _), next_whenActing hacts ?_,
      next_whenActing hacts ?_, next_whenActing hacts (hsolo _), next_whenActing hacts (hsolo _),
      next_whenActing hacts (hsolo _)⟩
    · rintro f rfl
      refine next_whenActing hacts ?_
      rw [State.actPlace, stripOf_eq_none hstrip]
      rfl
    · rintro f rfl
      exact next_whenActing hacts (hcommand _ _)
    · rw [State.actQueryStrip, stripOf_eq_none hstrip]
      rfl
    · rw [State.actQueryCues, stripOf_eq_none hstrip]
      rfl
  · have hcommand (kind : Byte) := State.stripsCommand_malformed (source := source) (s := s) kind hstrip hne
    refine ⟨?_, next_whenActing hacts (hcommand _ _), next_whenActing hacts (hcommand _ _)⟩
    rintro f rfl
    by_cases hmode : f.mask.getLsbD 2 = true → f.mode.toNat < 4
    · exact next_whenActing hacts ((State.actStripSet_of_mode hmode s).trans (hcommand _ _))
    · simp only [Classical.not_imp, not_lt] at hmode
      exact next_whenActing hacts (State.actStripSet_of_no_mode hmode.1 hmode.2 s)
  · exact next_whenActing hacts (State.actStripSet_of_no_mode hmask hmode s)
  · have hcommand (kind : Byte) := State.unitCommand_malformed (source := source) (s := s) kind hunit
    refine ⟨next_whenActing hacts (hcommand _ _), next_whenActing hacts (hcommand _ _), next_whenActing hacts (hcommand _ _),
      next_whenActing hacts (hcommand _ _), next_whenActing hacts ?_⟩
    rw [State.actQueryCapture, unitOf_eq_none hunit]
    rfl
  · refine next_whenActing hacts ?_
    rw [State.actQueryGroup, groupOf_eq_none hgroup]
    rfl
  · refine next_whenActing hacts ?_
    rw [State.actQueryAnchor, laneOf_eq_none hlane]
    rfl
  · exact ⟨next_whenActing hacts (State.announced_discarded hnone _), next_whenActing hacts (State.announced_discarded hnone _),
      next_whenActing hacts (State.announced_discarded hnone _)⟩
  · rcases hcommand with rfl | rfl | rfl
    · exact exec_allStrips (kind := kindStripSet) (act := State.applyStripSet f)
        (command := fun strip => .stripSet source { f with strip }) hacts (State.applyStripSet_clock f)
        (fun strip t ht => next_whenActing ht (State.actStripSet_of_mode (f := { f with strip }) hmode t)) fun _ _ => rfl
    · exact exec_allStrips (kind := kindCueFlush) (act := fun n => State.setCues n []) (command := .cueFlush source) hacts
        (fun _ _ => rfl) (fun _ _ ht => next_whenActing ht rfl) fun _ _ => rfl
    · refine exec_allStrips (kind := kindSolo) (act := fun n t => if yes x then t.soloStrip n else t.unsoloStrip n)
        (command := fun strip => .solo source strip x) hacts (fun n t => ?_) (fun _ _ ht => next_whenActing ht rfl)
        fun _ _ => rfl
      split
      · exact State.soloStrip_clock n t
      · exact State.unsoloStrip_clock n t

end Sys2Proof.Machine
end

section
/-! O29: the processing of one period's samples. -/

namespace Sys2Proof.Machine

open Sys2Proof

/-! ### Products and sums (R54 to R60) -/

theorem Ramp.advance_eq (r : Ramp) : r.advance = if r.step < r.length then r.stepOnce else r := by
  rw [Ramp.advance, Ramp.inProgress, if_congr decide_eq_true_iff rfl rfl]

theorem Strip.product_eq (x : Int) (st : Strip) : st.product x = (x * st.ramp.applied + 2097152) / 4194304 := rfl

theorem tapProduct_eq (y : Int) (t : Tap) : tapProduct y t = (y * t.coef + 16384) / 32768 := rfl

/-- R60: a strip adds to a lane the products of its taps on that lane. -/
theorem Strip.contribution_eq (y : Int) (j : LaneNo) (st : Strip) : st.contribution y j =
    ((st.placement.filter fun tap => tap.lane == j).map fun tap => (y * tap.coef + 16384) / 32768).sum := by
  rw [Strip.contribution]
  induction st.placement with
  | nil => rfl
  | cons t taps ih =>
    rw [List.map_cons, List.sum_cons, ih, List.filter_cons]
    by_cases h : t.lane = j
    · simp only [h, if_true, BEq.rfl, List.map_cons, List.sum_cons, tapProduct_eq]
    · simp only [h, if_false, beq_eq_false_iff_ne.mpr h, Bool.false_eq_true, zero_add]

/-! ### One period's samples (R54) -/

section
variable (samples : List Sample) (s : State)

/-- What the processing leaves alone. -/
theorem State.processSamples_eq : s.processSamples samples = { s with
    engine.strips := (s.processSamples samples).engine.strips
    adder.handed := (s.processSamples samples).adder.handed
    clock.taken.sampled := true
    reports.vectors := (s.processSamples samples).reports.vectors } := by
  simp only [State.processSamples, State.latchStrips, State.mapStrips]

theorem State.strip_processSamples (n : StripNo) :
    (s.processSamples samples).strip n = s.processed (s.inputSample samples n) (s.strip n) := by
  rw [State.processSamples, State.strip_latchStrips]
  exact State.strip_mapStrips ..

theorem State.vector_processSamples (n : StripNo) : (s.processSamples samples).reports.vectors[stripSource n] =
    if 8388608 ≤ ((s.strip n).stepped.product (s.inputSample samples n)).natAbs then
      { events := s.reports.vectors[stripSource n].events ||| NoticeEvent.over.set
        count := min 255 (s.reports.vectors[stripSource n].count + 1) }
    else s.reports.vectors[stripSource n] := by
  rw [State.processSamples, State.vector_latchStrips, isOver]
  simp only [State.mapStrips_reports, decide_eq_true_eq]
  split <;> rfl

theorem State.vector_processSamples_other {src : SourceNo} (h : 32 ≤ src.val) :
    (s.processSamples samples).reports.vectors[src] = s.reports.vectors[src] := by
  rw [State.processSamples, State.vector_latchStrips_other _ _ h]
  simp only [State.mapStrips_reports]

theorem State.handed_processSamples (j : LaneNo) : (s.processSamples samples).adder.handed[j] =
    ∑ n : StripNo, (s.strip n).stepped.contribution ((s.strip n).stepped.product (s.inputSample samples n)) j := by
  rw [State.processSamples, State.latchStrips_adder, Fin.sum_univ_def]
  simp [State.laneSums, allStrips]

end

section
variable {s : State} {st : Strip} {x : Int}

/-- R54: without a completing swap the ramp steps and the peak rises. -/
theorem State.processed_of_not_done (h : st.stepped.swapDone = false) :
    s.processed x st = { st.stepped with peak := max st.peak (st.stepped.product x).natAbs } := by
  rw [State.processed]
  exact if_neg (Bool.eq_false_iff.mp h)

/-- R39: a completing swap takes the incoming placement, and the target is recomputed. -/
theorem State.processed_of_done (h : st.stepped.swapDone = true) : s.processed x st =
    s.retargeted 96 { st.stepped with peak := max st.peak (st.stepped.product x).natAbs }.swapped := by
  rw [State.processed]
  exact if_pos h

end

theorem State.strip_begun (s : State) (n : StripNo) : s.begun.strip n = s.strip n := by
  rw [State.strip, State.begun_engine]
  rfl

theorem State.inputSample_begun (samples : List Sample) (n : StripNo) (s : State) :
    s.begun.inputSample samples n = s.inputSample samples n := by
  simp only [State.inputSample, State.begun_clock_ports]

/-- Settles O29: the processing of the state that has begun its period, strip by strip. -/
theorem sampleProcessingStepsRampsAndSumsLanes : Obligations.SampleProcessingStepsRampsAndSumsLanes := by
  intro samples s _ hstart hopen
  have hsampling : s.samplingOpen = true := by
    rw [State.samplingOpen, s.periodsPass_iff.mpr hstart, hopen]
    rfl
  have hexec : exec (.sampleProcessing samples) s = .next (s.begun.processSamples samples) :=
    congrArg _ (if_pos hsampling)
  refine ⟨s.begun, _, exec_historyAdvance hstart, hexec, State.processSamples_eq .., fun src hsrc => ?_, fun r y hr hy => ?_⟩
  · rw [State.vector_processSamples_other _ _ hsrc, State.begun_reports]
  · have hramp (n : StripNo) : (s.strip n).stepped = { s.strip n with ramp := r n } := by
      rw [Strip.stepped, Ramp.advance_eq, hr]
    have hproduct (n : StripNo) : (s.strip n).stepped.product (s.inputSample samples n) = y n := by
      rw [hramp, Strip.product_eq, hy]
      rfl
    have hswap (n : StripNo) : (s.strip n).stepped.swapDone = true ↔ (s.strip n).swapPending = true ∧ (r n).applied = 0 := by
      rw [hramp, Strip.swapDone, Bool.and_eq_true, beq_iff_eq]
    refine ⟨fun j => ?_, fun n => ⟨?_, fun hkept => ?_, fun hpending hzero => ?_⟩⟩
    · rw [State.handed_processSamples]
      simp only [State.strip_begun, State.inputSample_begun, hproduct, Strip.contribution_eq]
      rfl
    · rw [State.vector_processSamples, State.strip_begun, State.inputSample_begun, hproduct, State.begun_reports]
    · have hdone : (s.strip n).stepped.swapDone = false := by
        rw [Bool.eq_false_iff, ne_eq, hswap]
        rintro ⟨hpending, hzero⟩
        exact hkept.elim (fun hnot => Bool.eq_false_iff.mp hnot hpending) fun hne => hne hzero
      refine ⟨congrArg _ (if_neg (by simp [hdone])), ?_⟩
      rw [State.strip_processSamples, State.strip_begun, State.inputSample_begun, State.processed_of_not_done hdone, hproduct,
        hramp]
    · have hdone : (s.strip n).stepped.swapDone = true := (hswap n).mpr ⟨hpending, hzero⟩
      refine ⟨congrArg _ (if_pos (by simp [hdone, hsampling])), _, rfl, ?_⟩
      rw [State.strip_processSamples, State.strip_begun, State.inputSample_begun, State.processed_of_done hdone, hproduct,
        hramp, State.retargeted, State.begun_census, State.begun_engine]
      rfl

end Sys2Proof.Machine
end

section
/-! SUPPORT. What the strips' targets and solo active are made of (R44, R119), and the operations that leave all of it alone. -/

namespace Sys2Proof.Machine

open Sys2Proof

/-! ### One strip -/

/-- What a strip has to do with targets and solo active: whether it is soloed, the target it holds, and the target its fields
give, by solo active and the active mute groups. -/
def Strip.gain (st : Strip) : Bool × Nat × (Bool → BitVec 16 → Nat) := (st.soloed, st.ramp.target, fun soloActive active =>
  st.target soloActive active)

/-- R44: the fields give a target by the zero causes and the summed level alone. -/
theorem Strip.target_congr {st st' : Strip} {soloActive soloActive' : Bool} {active active' : BitVec 16}
    (hcause : st'.zeroCause soloActive' active' = st.zeroCause soloActive active) (hsummed : st'.summed = st.summed) :
    st'.target soloActive' active' = st.target soloActive active := by
  rw [Strip.target, Strip.target, hcause, hsummed]

/-- R42: an event that keeps the effective fader, the trim and the offset keeps the summed level. -/
theorem Strip.summed_congr {st st' : Strip} (heffective : st'.effective = st.effective) (htrim : st'.trim = st.trim)
    (hoffset : st'.offset = st.offset) : st'.summed = st.summed := by
  rw [Strip.summed, Strip.summed, heffective, htrim, hoffset]

/-- A record whose effective fader stands, as its trim, offset, target and zero causes do. -/
theorem Strip.gain_of_effective {st st' : Strip} (heffective : st'.effective = st.effective)
    (hsoloed : st'.soloed = st.soloed) (hramp : st'.ramp.target = st.ramp.target)
    (hcause : ∀ soloActive active, st'.zeroCause soloActive active = st.zeroCause soloActive active)
    (htrim : st'.trim = st.trim) (hoffset : st'.offset = st.offset) : st'.gain = st.gain := by
  have htarget (soloActive : Bool) (active : BitVec 16) : st'.target soloActive active = st.target soloActive active :=
    Strip.target_congr (hcause soloActive active) (Strip.summed_congr heffective htrim hoffset)
  simp only [Strip.gain, hsoloed, hramp, htarget]

/-- R102: the touch copy keeps the effective fader. -/
theorem Strip.touchEdge_effective {st : Strip} (rolling : Bool) (h : st.touched = false) :
    (st.touchEdge rolling).effective = st.effective := by
  cases hm : st.mode <;> cases hl : st.latched <;>
    simp [Strip.touchEdge, Strip.effective, Strip.liveInForce, hm, h, hl]

theorem Strip.touchEdge_gain {st : Strip} (rolling : Bool) (h : st.touched = false) :
    (st.touchEdge rolling).gain = st.gain :=
  Strip.gain_of_effective (Strip.touchEdge_effective rolling h) rfl rfl (fun _ _ => rfl) rfl rfl

/-- R105: a touched LATCH strip has its live level in force before it becomes latched. -/
theorem Strip.startRoll_gain (st : Strip) : st.startRoll.gain = st.gain := by
  unfold Strip.startRoll
  split
  · rename_i h
    refine Strip.gain_of_effective ?_ rfl rfl (fun _ _ => rfl) rfl rfl
    simp [Strip.effective, Strip.liveInForce, h.1, h.2]
  · rfl

@[simp] theorem Ramp.advance_target (r : Ramp) : r.advance.target = r.target := by
  unfold Ramp.advance
  split <;> rfl

/-- R54: a step of the ramp and a peak. -/
theorem Strip.stepped_gain (st : Strip) (peak : Nat) : { st.stepped with peak := peak }.gain = st.gain :=
  Strip.gain_of_effective rfl rfl (Ramp.advance_target _) (fun _ _ => rfl) rfl rfl

/-! ### The node -/

/-- What solo active is judged by, beside the strips (R119), and solo active itself. -/
def State.soloTerms (s : State) : Vector CensusTable 3 × Roles × Nat × Bool :=
  (s.census.tables, s.census.roles, s.census.localSolo, s.census.soloActive)

/-- Everything that targets and solo active are made of. -/
def State.gains (s : State) : (StripNo → Bool × Nat × (Bool → BitVec 16 → Nat)) × BitVec 16 ×
    Vector CensusTable 3 × Roles × Nat × Bool :=
  (fun n => (s.strip n).gain, s.engine.activeMutes, s.soloTerms)

/-- It stands with the Strip Engine and the Census. -/
theorem State.gains_congr {s t : State} (hengine : t.engine = s.engine) (hcensus : t.census = s.census) :
    t.gains = s.gains := by
  simp only [State.gains, State.soloTerms, State.strip, hengine, hcensus]

section
variable (s : State)

@[simp] theorem State.gains_latch (src : SourceNo) (e : NoticeEvent) : (s.latch src e).gains = s.gains := rfl
@[simp] theorem State.gains_latchNode (e : NoticeEvent) : (s.latchNode e).gains = s.gains := rfl
@[simp] theorem State.gains_latchStrips (f : StripNo → List NoticeEvent) : (s.latchStrips f).gains = s.gains :=
  State.gains_congr (s.latchStrips_engine f) (s.latchStrips_census f)
@[simp] theorem State.gains_count (f : Counters → Counters) : (s.count f).gains = s.gains := rfl
@[simp] theorem State.gains_setGroup (g : GroupNo) (e : GroupEntry) : (s.setGroup g e).gains = s.gains := rfl
@[simp] theorem State.gains_setUnit (u : UnitNo) (c : CaptureUnit) : (s.setUnit u c).gains = s.gains := rfl
@[simp] theorem State.gains_setCues (n : StripNo) (l : List Cue) : (s.setCues n l).gains = s.gains := rfl
@[simp] theorem State.gains_emptyCues : s.emptyCues.gains = s.gains := rfl
@[simp] theorem State.gains_offer (m : OutMsg) : (s.offer m).gains = s.gains :=
  State.gains_congr (s.offer_engine m) (s.offer_census m)
@[simp] theorem State.gains_announce (b : Body) : (s.announce b).gains = s.gains := State.gains_offer ..
@[simp] theorem State.gains_refuse (source : Member) (kind object : Byte) (reason : Reason) :
    (s.refuse source kind object reason).gains = s.gains := State.gains_offer ..

@[simp] theorem State.gains_begun : s.begun.gains = s.gains :=
  State.gains_congr s.begun_engine s.begun_census

/-- A record written back with its part in targets and solo active as it was. -/
theorem State.gains_setStrip {n : StripNo} {st : Strip} (h : st.gain = (s.strip n).gain) :
    (s.setStrip n st).gains = s.gains := by
  have hstrips : (fun m => ((s.setStrip n st).strip m).gain) = fun m => (s.strip m).gain := by
    funext m
    rw [State.strip_setStrip]
    split
    · rename_i e
      rw [h, e]
    · rfl
  exact congrArg (·, s.engine.activeMutes, s.soloTerms) hstrips

theorem State.gains_mapStrips {f : StripNo → Strip → Strip} (h : ∀ n, (f n (s.strip n)).gain = (s.strip n).gain) :
    (s.mapStrips f).gains = s.gains := by
  simp only [State.gains, State.soloTerms, State.strip_mapStrips, State.mapStrips_census, State.mapStrips_engine_activeMutes, h]

/-- A fold of operations that leave it all alone leaves it alone. -/
theorem State.gains_foldl {α : Type} {f : State → α → State} (hf : ∀ t a, (f t a).gains = t.gains) (l : List α)
    (s : State) : (l.foldl f s).gains = s.gains := by
  induction l generalizing s with
  | nil => rfl
  | cons a l ih => rw [List.foldl_cons, ih, hf]

/-! ### Groups, touch edges and the transport (chapters 6 and 8) -/

@[simp] theorem State.gains_handOn (g : GroupNo) : (s.handOn g).gains = s.gains := by
  rw [State.handOn_eq]
  rfl

@[simp] theorem State.gains_releaseIfLead (g : Option GroupNo) (n : StripNo) : (s.releaseIfLead g n).gains = s.gains :=
  State.gains_congr (State.releaseIfLead_engine ..) (State.releaseIfLead_census ..)

@[simp] theorem State.gains_groupTouch (n : StripNo) : (s.groupTouch n).gains = s.gains := by
  unfold State.groupTouch
  split
  · split
    · exact State.gains_announce ..
    · rfl
  · rfl

@[simp] theorem State.gains_takeClaim (g : GroupNo) (k : Key) : (s.takeClaim g k).gains = s.gains := by
  unfold State.takeClaim
  split
  · rfl
  · split
    · rfl
    · split <;> rfl

@[simp] theorem State.gains_takeRelease (g : GroupNo) (k : Key) : (s.takeRelease g k).gains = s.gains := by
  unfold State.takeRelease
  split <;> simp

@[simp] theorem State.gains_ageGroup (g : GroupNo) : (s.ageGroup g).gains = s.gains := by
  unfold State.ageGroup
  split
  · rfl
  · split
    · rfl
    · split <;> simp [State.lapse]

@[simp] theorem State.gains_ageGroups : s.ageGroups.gains = s.gains := State.gains_foldl State.gains_ageGroup _ _

@[simp] theorem State.gains_markSoloed : s.markSoloed.gains = s.gains := by
  simp only [State.markSoloed, State.gains, State.soloTerms, State.strip]

@[simp] theorem State.gains_takeMark : s.takeMark.gains = s.gains := by
  unfold State.takeMark
  split
  · exact State.gains_announce ..
  · split
    · unfold State.claimRefresh
      split
      · split
        · exact State.gains_announce ..
        · rfl
      · rfl
    · rfl

@[simp] theorem State.gains_captureEdge (n : StripNo) (mark : Byte) : (s.captureEdge n mark).gains = s.gains := by
  unfold State.captureEdge
  split
  · split <;> simp
  · rfl

/-- R102: a touch edge moves no effective fader. -/
@[simp] theorem State.gains_touchOn (n : StripNo) : (s.touchOn n).gains = s.gains := by
  unfold State.touchOn
  split
  · rfl
  · rename_i h
    have hedged : (s.setStrip n ((s.strip n).touchEdge s.clock.rolling)).gains = s.gains :=
      s.gains_setStrip (Strip.touchEdge_gain _ (Bool.eq_false_iff.mpr h))
    dsimp only
    split <;> simp [hedged]

@[simp] theorem State.gains_stripsRoll : s.stripsRoll.gains = s.gains := s.gains_mapStrips fun n => (s.strip n).startRoll_gain

@[simp] theorem State.gains_offerCueTo (n : StripNo) (c : Cue) : (s.offerCueTo n c).gains = s.gains := by
  unfold State.offerCueTo
  dsimp only
  split <;> simp

/-! ### Capture units (chapter 9) -/

@[simp] theorem State.gains_releaseBinding (u : UnitNo) : (s.releaseBinding u).gains = s.gains := by
  unfold State.releaseBinding
  dsimp only
  split
  · exact State.gains_setStrip _ rfl
  · rfl

@[simp] theorem State.gains_finish (u : UnitNo) (q : Position) (flags condition : Byte) :
    (s.finish u q flags condition).gains = s.gains := by simp [State.finish]

@[simp] theorem State.gains_sample (u : UnitNo) (q : Position) : (s.sample u q).gains = s.gains := by
  unfold State.sample
  dsimp only
  split
  · simp
  · split <;> simp

@[simp] theorem State.gains_enterWriting (u : UnitNo) (q : Position) : (s.enterWriting u q).gains = s.gains := by
  simp [State.enterWriting]

@[simp] theorem State.gains_unitPosition (q : Position) (u : UnitNo) : (s.unitPosition q u).gains = s.gains := by
  unfold State.unitPosition
  split
  case h_1 | h_3 => split <;> simp
  case h_2 => simp
  all_goals rfl

@[simp] theorem State.gains_unitsPosition (q : Position) : (s.unitsPosition q).gains = s.gains :=
  State.gains_foldl (State.gains_unitPosition · q) _ _

@[simp] theorem State.gains_unitEnd (q : Position) (condition : Byte) (u : UnitNo) :
    (s.unitEnd q condition u).gains = s.gains := by
  unfold State.unitEnd
  split
  case h_1 | h_2 => simp
  all_goals rfl

@[simp] theorem State.gains_unitsEnd (q : Position) (condition : Byte) : (s.unitsEnd q condition).gains = s.gains :=
  State.gains_foldl (State.gains_unitEnd · q condition) _ _

@[simp] theorem State.gains_endDrain (u : UnitNo) : (s.endDrain u).gains = s.gains := by
  rw [State.endDrain_eq]
  rfl

@[simp] theorem State.gains_endEmpty (u : UnitNo) (conditions : Byte) : (s.endEmpty u conditions).gains = s.gains := by
  simp [State.endEmpty]

@[simp] theorem State.gains_actCaptureStart (source : Member) (f : CaptureStartFields) :
    (s.actCaptureStart source f).gains = s.gains := by
  have harmed (u : UnitNo) (settings : CaptureSettings) : (s.startArmed u settings).gains = s.gains := by
    unfold State.startArmed
    dsimp only
    split
    · rw [State.gains_enterWriting]
      exact State.gains_setStrip _ rfl
    · exact State.gains_setStrip _ rfl
  unfold State.actCaptureStart
  split
  · split_ifs <;> simp [State.startEnded, harmed]
  · simp

theorem State.gains_unitCommand (source : Member) (kind unit : Byte) {act : UnitNo → State → State}
    (hact : ∀ u, (act u s).gains = s.gains) : (s.unitCommand source kind unit act).gains = s.gains := by
  unfold State.unitCommand
  split
  · exact hact _
  · simp

@[simp] theorem State.gains_actCaptureStop (source : Member) (unit : Byte) :
    (s.actCaptureStop source unit).gains = s.gains := by
  refine s.gains_unitCommand _ _ _ fun u => ?_
  unfold State.stopUnit
  split <;> simp

@[simp] theorem State.gains_actCaptureSuspend (source : Member) (unit : Byte) :
    (s.actCaptureSuspend source unit).gains = s.gains := by
  refine s.gains_unitCommand _ _ _ fun u => ?_
  unfold State.suspendUnit
  split <;> simp

@[simp] theorem State.gains_actCaptureResume (source : Member) (unit : Byte) :
    (s.actCaptureResume source unit).gains = s.gains := by
  refine s.gains_unitCommand _ _ _ fun u => ?_
  unfold State.resumeUnit
  split <;> simp

@[simp] theorem State.gains_actCaptureClear (source : Member) (unit : Byte) :
    (s.actCaptureClear source unit).gains = s.gains := by
  refine s.gains_unitCommand _ _ _ fun u => ?_
  unfold State.clearUnit
  split <;> simp [State.clearSuspended, State.clearEnded]

@[simp] theorem State.gains_packingTurn (u : UnitNo) : (s.packingTurn u).gains = s.gains := by
  have hheld (t : State) : (t.offerHeldEnd u).gains = t.gains := by
    unfold State.offerHeldEnd
    dsimp only
    split
    · split <;> simp
    · rfl
  have hwork (t : State) : (t.turnWork u).gains = t.gains := by
    unfold State.turnWork
    dsimp only
    split
    · exact hheld t
    · split <;> split <;> simp [State.pack]
  exact hwork _

/-! ### Messages, the loop, outputs and reports (chapters 1, 4, 5 and 10) -/

@[simp] theorem State.gains_loseEntries (n : Nat) : (s.loseEntries n).gains = s.gains := by
  induction n generalizing s with
  | zero => rfl
  | succ n ih => rw [State.loseEntries, ih, State.gains_latchNode, State.gains_count]

@[simp] theorem State.gains_ownReturn (kind : Byte) : (s.ownReturn kind).gains = s.gains := by
  unfold State.ownReturn
  split
  · rw [State.gains_loseEntries]
    rfl
  · split <;> simp

@[simp] theorem State.gains_timeoutEntries : s.timeoutEntries.gains = s.gains := State.gains_loseEntries ..

@[simp] theorem State.gains_insert : s.insert.gains = s.gains := by
  obtain ⟨d, q, f, h, -⟩ := s.insert_cases
  rw [h]
  rfl

@[simp] theorem State.gains_stepAnchors (steps : List AnchorStep) : (s.stepAnchors steps).gains = s.gains :=
  State.gains_congr (State.latchAnchors_engine ..) (State.latchAnchors_census ..)

@[simp] theorem State.gains_processOutputs : s.processOutputs.gains = s.gains := State.gains_stepAnchors ..

@[simp] theorem State.gains_emit : s.emit.gains = s.gains := by
  calc s.emit.gains = s.insert.handOffs.gains := rfl
    _ = s.insert.gains := by
      unfold State.handOffs
      split <;> simp
    _ = s.gains := s.gains_insert

@[simp] theorem State.gains_closePeriod : s.closePeriod.gains = s.gains := by
  unfold State.closePeriod
  split <;> rfl

@[simp] theorem State.gains_openPeriod : s.openPeriod.gains = s.gains := rfl

@[simp] theorem State.gains_lockEdge : s.lockEdge.gains = s.gains := by
  unfold State.lockEdge
  split <;> rfl

@[simp] theorem State.gains_countGood : s.countGood.gains = s.gains := by
  unfold State.countGood
  split <;> rfl

@[simp] theorem State.gains_actOutputSet (source : Member) (f : OutputSetFields) :
    (s.actOutputSet source f).gains = s.gains := by
  unfold State.actOutputSet
  split
  · rfl
  · split
    · simp
    · split
      · rfl
      · simp

@[simp] theorem State.gains_meterReports : s.meterReports.gains = s.gains := by
  have hstrip (t : State) (b : Nat) : (t.stripMeter b).gains = t.gains := by
    unfold State.stripMeter
    split
    · refine (State.gains_mapStrips _ fun n => ?_).trans (t.gains_offer _)
      split <;> rfl
    · rfl
  have hanchor (t : State) (b : Nat) : (t.anchorMeter b).gains = t.gains := by
    unfold State.anchorMeter
    split
    · exact State.gains_offer ..
    · rfl
  rw [State.meterReports, State.gains_foldl hanchor, State.gains_foldl hstrip]

@[simp] theorem State.gains_visit (src : SourceNo) : (s.visit src).gains = s.gains := by
  unfold State.visit
  split
  · exact State.gains_offer ..
  · rfl

theorem State.gains_answer (source : Member) (item : QueryItem) (object : Byte) (shares : List ReplyShare)
    {after : State → State} (hafter : ∀ t, (after t).gains = t.gains) :
    (s.answer source item object shares after).gains = s.gains := by
  unfold State.answer
  split
  · simp
  · rw [hafter, State.gains_foldl fun t _ => State.gains_offer ..]

section
variable (source : Member) (object : Byte)

@[simp] theorem State.gains_actQueryStrip : (s.actQueryStrip source object).gains = s.gains := by
  unfold State.actQueryStrip
  split
  · exact State.gains_answer _ _ _ _ _ fun _ => rfl
  · exact State.gains_refuse ..

@[simp] theorem State.gains_actQueryCues : (s.actQueryCues source object).gains = s.gains := by
  unfold State.actQueryCues
  split
  · exact State.gains_answer _ _ _ _ _ fun _ => rfl
  · exact State.gains_refuse ..

@[simp] theorem State.gains_actQueryCensus : (s.actQueryCensus source object).gains = s.gains :=
  State.gains_answer _ _ _ _ _ fun _ => rfl

@[simp] theorem State.gains_actQueryGroup : (s.actQueryGroup source object).gains = s.gains := by
  unfold State.actQueryGroup
  split
  · exact State.gains_answer _ _ _ _ _ fun _ => rfl
  · exact State.gains_refuse ..

@[simp] theorem State.gains_actQueryCapture : (s.actQueryCapture source object).gains = s.gains := by
  unfold State.actQueryCapture
  split
  · exact State.gains_answer _ _ _ _ _ fun _ => rfl
  · exact State.gains_refuse ..

@[simp] theorem State.gains_actQueryAnchor : (s.actQueryAnchor source object).gains = s.gains := by
  unfold State.actQueryAnchor
  split
  · exact State.gains_answer _ _ _ _ _ fun _ => rfl
  · exact State.gains_refuse ..

@[simp] theorem State.gains_actQueryCounters (clear : Byte) : (s.actQueryCounters source object clear).gains = s.gains := by
  refine State.gains_answer _ _ _ _ _ fun t => ?_
  split <;> rfl

@[simp] theorem State.gains_actQuery (item clear : Byte) : (s.actQuery source item object clear).gains = s.gains := by
  unfold State.actQuery
  split <;> simp [State.refuseQuery]

end

end

end Sys2Proof.Machine
end

section
/-! SUPPORT. O54: targets and solo active (R44, R45, R119), operation by operation. -/

namespace Sys2Proof.Machine

open Sys2Proof

/-- The two invariants of targets and solo active together. -/
structure State.GainsSound (s : State) : Prop where
  targets : s.TargetsSound
  solo : s.SoloSound

/-- R44: a record whose target is what its fields give in the state `s`. -/
abbrev State.onTarget (s : State) (st : Strip) : Prop :=
  st.ramp.target = st.target s.census.soloActive s.engine.activeMutes

/-- R45: a recomputation sets the target its fields give. -/
theorem State.retargeted_onTarget (s : State) (length : Nat) (st : Strip) : s.onTarget (s.retargeted length st) :=
  Ramp.retarget_target ..

/-- A record with the part of another in targets and solo active is on its target where the other is. -/
theorem State.onTarget_congr {s : State} {st st' : Strip} (h : s.onTarget st) (e : st'.gain = st.gain) : s.onTarget st' := by
  simp only [Strip.gain, Prod.mk.injEq] at e
  obtain ⟨-, hramp, hfields⟩ := e
  rw [State.onTarget, hramp, h]
  exact (congrFun₂ hfields _ _).symm

/-- What an event may make of a strip's record: it is on its target if it was, and soloed if it was. -/
structure State.Follows (s : State) (st st' : Strip) : Prop where
  target : s.onTarget st → s.onTarget st'
  soloed : st'.soloed = st.soloed

theorem State.follows_of_gain (s : State) {st st' : Strip} (e : st'.gain = st.gain) : s.Follows st st' :=
  ⟨fun h => State.onTarget_congr h e, congrArg Prod.fst e⟩

/-- A record written, and its target recomputed. -/
theorem State.follows_retargeted (s : State) (length : Nat) {st st' : Strip} (hsoloed : st'.soloed = st.soloed) :
    s.Follows st (s.retargeted length st') := ⟨fun _ => State.retargeted_onTarget .., hsoloed⟩

theorem State.Follows.ite {s : State} {st a b : Strip} {p : Prop} [Decidable p] (ha : p → s.Follows st a)
    (hb : ¬p → s.Follows st b) : s.Follows st (if p then a else b) := by
  split
  · exact ha ‹_›
  · exact hb ‹_›

/-- R112: a firing event recomputes the target where it moves the effective fader. -/
theorem State.fired_follows (s : State) (c : Cue) (st : Strip) : s.Follows st (s.fired c st) :=
  .ite (fun e => s.follows_of_gain (Strip.gain_of_effective e rfl rfl (fun _ _ => rfl) rfl rfl))
    fun _ => s.follows_retargeted _ rfl

theorem State.firedAt_follows (s : State) (q : Position) (l : List Cue) (st : Strip) : s.Follows st (s.firedAt q l st) := by
  unfold State.firedAt
  split
  · exact s.fired_follows _ st
  · exact s.follows_of_gain rfl

/-- R105: at a park the target is recomputed where the end of the latch moves the effective fader. -/
theorem State.parkStrip_follows (s : State) (st : Strip) : s.Follows st (s.parkStrip st) :=
  .ite (fun e => s.follows_of_gain (Strip.gain_of_effective e rfl rfl (fun _ _ => rfl) rfl rfl))
    fun _ => s.follows_retargeted _ rfl

/-- R33: a delta recomputes the target where it moves the offset. -/
theorem State.withDelta_follows (s : State) (change : Int) (st : Strip) : s.Follows st (s.withDelta change st) :=
  .ite (fun _ => s.follows_of_gain rfl) fun _ => s.follows_retargeted _ rfl

/-- R39, R54: a ramp step keeps the target, and a completing swap recomputes it. -/
theorem State.processed_follows (s : State) (x : Int) (st : Strip) : s.Follows st (s.processed x st) :=
  .ite (fun _ => s.follows_retargeted _ rfl) fun _ => s.follows_of_gain (Strip.stepped_gain st _)

/-- R119, R121: what holds of the solo terms while solo active is still to be judged. -/
structure State.SoloCounted (s : State) : Prop where
  count : s.census.localSolo = allStrips.countP fun n => (s.strip n).soloed
  roles : s.census.roles.current ≠ s.census.roles.next ∧ s.census.roles.next ≠ s.census.roles.empty ∧
    s.census.roles.current ≠ s.census.roles.empty

theorem State.soloSound_iff (s : State) : s.SoloSound ↔ s.census.soloActive = s.soloWanted ∧ s.SoloCounted := by
  constructor
  · rintro ⟨hwanted, hcount, hroles⟩
    exact ⟨hwanted, hcount, hroles⟩
  · rintro ⟨hwanted, hcount, hroles⟩
    exact ⟨hwanted, hcount, hroles⟩

/-- R119: the solo terms stand, and so does which strips are soloed. -/
theorem State.SoloCounted.congr {s t : State} (h : s.SoloCounted) (hterms : t.soloTerms = s.soloTerms)
    (hsoloed : ∀ n, (t.strip n).soloed = (s.strip n).soloed) : t.SoloCounted := by
  simp only [State.soloTerms, Prod.mk.injEq] at hterms
  obtain ⟨-, hroles, hlocal, -⟩ := hterms
  refine ⟨?_, hroles ▸ h.roles⟩
  simp only [hlocal, hsoloed]
  exact h.count

theorem State.soloWanted_congr {s t : State} (hterms : t.soloTerms = s.soloTerms) : t.soloWanted = s.soloWanted := by
  simp only [State.soloTerms, Prod.mk.injEq] at hterms
  obtain ⟨htables, hroles, hlocal, -⟩ := hterms
  rw [State.soloWanted, State.soloWanted, State.table, State.table, htables, hroles, hlocal]

theorem State.soloSound_congr {s t : State} (h : s.SoloSound) (hterms : t.soloTerms = s.soloTerms)
    (hsoloed : ∀ n, (t.strip n).soloed = (s.strip n).soloed) : t.SoloSound := by
  obtain ⟨hwanted, hcounted⟩ := s.soloSound_iff.mp h
  refine t.soloSound_iff.mpr ⟨?_, hcounted.congr hterms hsoloed⟩
  rw [State.soloWanted_congr hterms, ← hwanted]
  exact congrArg (·.2.2.2) hterms

/-- The invariants are kept by everything that leaves what they are made of as it was. -/
theorem State.GainsSound.of_gains {s t : State} (h : s.GainsSound) (e : t.gains = s.gains) : t.GainsSound := by
  simp only [State.gains, Prod.mk.injEq] at e
  obtain ⟨hstrips, hactive, hterms⟩ := e
  refine ⟨fun n => ?_, State.soloSound_congr h.solo hterms fun n => congrArg Prod.fst (congrFun hstrips n)⟩
  have hsolo : t.census.soloActive = s.census.soloActive := congrArg (·.2.2.2) hterms
  rw [hsolo, hactive]
  exact State.onTarget_congr (h.targets n) (congrFun hstrips n)

/-- Power reset leaves every strip on its target and solo active off. -/
theorem State.reset_gainsSound : State.reset.GainsSound := ⟨State.reset_targetsSound, State.reset_soloSound⟩

/-- A step under a condition, and otherwise nothing. -/
theorem State.GainsSound.ite {s t : State} {p : Prop} [Decidable p] (h : s.GainsSound) (ht : t.GainsSound) :
    (if p then t else s).GainsSound := by
  split
  · exact ht
  · exact h

/-- A fold of operations that keep the invariants keeps them. -/
theorem State.GainsSound.foldl {α : Type} {f : State → α → State} (hf : ∀ t a, t.GainsSound → (f t a).GainsSound)
    (l : List α) {s : State} (h : s.GainsSound) : (l.foldl f s).GainsSound := by
  induction l generalizing s with
  | nil => exact h
  | cons a l ih => exact ih (hf s a h)

/-! ### Solo active judged again (R118, R119) -/

/-- R119: strips whose targets follow solo active as it is held follow it as it is judged. -/
theorem State.judgeSolo_gainsSound {s : State} (htargets : s.soloWanted = s.census.soloActive → s.TargetsSound)
    (hcounted : s.SoloCounted) : s.judgeSolo.GainsSound := by
  unfold State.judgeSolo
  split
  · rename_i h
    exact ⟨htargets h, s.soloSound_iff.mpr ⟨h.symm, hcounted⟩⟩
  · refine ⟨fun n => ?_, ?_⟩
    · rw [State.retargetAll, State.strip_mapStrips, State.mapStrips_census, State.mapStrips_engine_activeMutes]
      exact State.retargeted_onTarget ..
    · have hstrip (n : StripNo) : (({ s with census.soloActive := s.soloWanted }.retargetAll shortRamp).strip n).soloed =
          (s.strip n).soloed := by
        rw [State.retargetAll, State.strip_mapStrips]
        rfl
      refine (State.soloSound_iff _).mpr ⟨?_, ?_, ?_⟩
      · simp only [State.retargetAll, State.soloWanted, State.mapStrips_census, State.table_mapStrips]
        rfl
      · simp only [hstrip]
        simp only [State.retargetAll, State.mapStrips_census]
        exact hcounted.count
      · simp only [State.retargetAll, State.mapStrips_census]
        exact hcounted.roles

/-- R118: the recomputation that a change of one strip's soloed field brings about. -/
theorem State.soloChanged_gainsSound {s : State} {n : StripNo} (htargets : ∀ k, k ≠ n → s.onTarget (s.strip k))
    (hcounted : s.SoloCounted) : (s.soloChanged n).GainsSound := by
  unfold State.soloChanged
  split
  · rename_i h
    have hsoloed (k : StripNo) : ((s.setRetargeted n shortRamp (s.strip n)).strip k).soloed = (s.strip k).soloed := by
      rw [State.setRetargeted, State.strip_setStrip]
      split
      · rename_i e
        rw [← e]
        rfl
      · rfl
    refine ⟨fun k => ?_, State.soloSound_congr (s.soloSound_iff.mpr ⟨h.symm, hcounted⟩) rfl hsoloed⟩
    rw [State.setRetargeted, State.strip_setStrip]
    split
    · exact State.retargeted_onTarget ..
    · rename_i hk
      exact htargets k (Ne.symm hk)
  · rename_i h
    exact State.judgeSolo_gainsSound (fun e => absurd e h) hcounted

/-- R118: the number of soloed strips after one strip's field is set. -/
theorem countP_soloed_set (soloed : StripNo → Bool) (n : StripNo) (b : Bool) :
    allStrips.countP (fun k => if n = k then b else soloed k) + (soloed n).toNat = allStrips.countP soloed + b.toNat := by
  have key (l : List StripNo) (hl : l.Nodup) (hn : n ∈ l) :
      l.countP (fun k => if n = k then b else soloed k) + (soloed n).toNat = l.countP soloed + b.toNat := by
    have hperm := List.perm_cons_erase hn
    have hrest : (l.erase n).countP (fun k => if n = k then b else soloed k) = (l.erase n).countP soloed := by
      refine List.countP_congr fun k hk => ?_
      rw [if_neg fun e => (hl.mem_erase_iff.mp hk).1 e.symm]
    rw [hperm.countP_eq, hperm.countP_eq soloed, List.countP_cons, List.countP_cons, hrest, if_pos rfl]
    cases b <;> cases soloed n <;> simp
  exact key _ (List.nodup_finRange 32) (List.mem_finRange n)

section
variable {s : State} (h : s.GainsSound)
include h

theorem State.GainsSound.counted : s.SoloCounted := (s.soloSound_iff.mp h.solo).2

/-! ### The primitive updates -/

theorem State.GainsSound.mapStrips {f : StripNo → Strip → Strip} (hf : ∀ n, s.Follows (s.strip n) (f n (s.strip n))) :
    (s.mapStrips f).GainsSound where
  targets n := by
    rw [State.strip_mapStrips, State.mapStrips_census, State.mapStrips_engine_activeMutes]
    exact (hf n).target (h.targets n)
  solo := State.soloSound_congr h.solo (by simp [State.soloTerms]) fun n => by rw [State.strip_mapStrips, (hf n).soloed]

theorem State.GainsSound.setStrip (n : StripNo) {st : Strip} (hst : s.Follows (s.strip n) st) :
    (s.setStrip n st).GainsSound where
  targets k := by
    rw [State.strip_setStrip]
    split
    · exact hst.target (h.targets n)
    · exact h.targets k
  solo := State.soloSound_congr h.solo rfl fun k => by
    rw [State.strip_setStrip]
    split
    · rename_i e
      rw [hst.soloed, e]
    · rfl

theorem State.GainsSound.setRetargeted (n : StripNo) (length : Nat) {st : Strip} (hsoloed : st.soloed = (s.strip n).soloed) :
    (s.setRetargeted n length st).GainsSound := h.setStrip n (s.follows_retargeted length hsoloed)

/-- R101: a record written by an event that moves at most the effective fader. -/
theorem State.GainsSound.setStripEffective (n : StripNo) (length : Nat) {st : Strip}
    (hgain : st.effective = (s.strip n).effective → st.gain = (s.strip n).gain) (hsoloed : st.soloed = (s.strip n).soloed) :
    (s.setStripEffective n length st).GainsSound := by
  unfold State.setStripEffective
  split
  · rename_i e
    exact h.of_gains (s.gains_setStrip (hgain e))
  · exact h.setRetargeted n length hsoloed

/-! ### Who acts (R26, R85, R100) -/

theorem State.GainsSound.refuse (source : Member) (kind object : Byte) (reason : Reason) :
    (s.refuse source kind object reason).GainsSound := h.of_gains (s.gains_refuse ..)

theorem State.GainsSound.whenActing (source : Member) {act : State → State} (hact : (act s).GainsSound) :
    (s.whenActing source act).GainsSound := h.ite hact

theorem State.GainsSound.stripCommand (source : Member) (kind strip : Byte) {act : StripNo → State → State}
    (hact : ∀ n, (act n s).GainsSound) : (s.stripCommand source kind strip act).GainsSound := by
  unfold State.stripCommand
  split
  · exact hact _
  · exact h.refuse ..

theorem State.GainsSound.stripsCommand (source : Member) (kind strip : Byte) {act : StripNo → State → State}
    (hact : ∀ n t, t.GainsSound → (act n t).GainsSound) : (s.stripsCommand source kind strip act).GainsSound := by
  unfold State.stripsCommand
  split
  · exact h.foldl (fun t n => hact n t) _
  · exact h.stripCommand _ _ _ fun n => hact n s h

/-! ### STRIP SET, MUTE GROUP and PLACE (R26 to R38) -/

/-- R27: one recomputation, or none where no input of the target changed. -/
theorem State.GainsSound.applyStripSet (f : StripSetFields) (n : StripNo) : (s.applyStripSet f n).GainsSound := by
  have hwritten : s.Follows (s.strip n) ((s.strip n).stripSet s.census.soloActive s.engine.activeMutes f) := by
    rw [Strip.stripSet_eq (h.targets n)]
    exact ⟨fun _ => Ramp.retarget_target .., by rw [Strip.written_eq f _ rfl]⟩
  refine (h.setStrip n hwritten).of_gains ?_
  simp only [State.gains, State.soloTerms, State.strip_applyStripSet, State.strip_setStrip]
  rw [State.applyStripSet_frame]
  rfl

theorem State.GainsSound.actStripSet (source : Member) (f : StripSetFields) : (s.actStripSet source f).GainsSound := by
  unfold State.actStripSet
  split
  · exact h.refuse ..
  · exact h.stripsCommand _ _ _ fun n t ht => ht.applyStripSet f n

/-- R35: a strip whose muted state stands keeps its target, and every other one is recomputed. -/
theorem State.GainsSound.setActiveMutes (active : BitVec 16) : (s.setActiveMutes active).GainsSound := by
  have hcensus : (s.setActiveMutes active).census = s.census := State.mapStrips_census ..
  refine ⟨fun n => ?_, State.soloSound_congr h.solo (by simp only [State.soloTerms, hcensus]) fun n => ?_⟩
  · have hactive : (s.setActiveMutes active).engine.activeMutes = active := State.mapStrips_engine_activeMutes ..
    rw [State.strip_setActiveMutes, hcensus, hactive]
    split
    · rename_i hmuted
      rw [h.targets n]
      exact Strip.target_congr (by rw [Strip.zeroCause, Strip.zeroCause, hmuted]) rfl
    · exact Ramp.retarget_target ..
  · rw [State.strip_setActiveMutes]
    split <;> rfl

theorem State.GainsSound.actMuteGroup (source : Member) (group state : Byte) :
    (s.actMuteGroup source group state).GainsSound := by
  unfold State.actMuteGroup
  split
  · exact h.setActiveMutes _
  · exact h.refuse ..

/-- R38: a commit that starts or moves a ramp recomputes the target. -/
theorem State.GainsSound.commit (n : StripNo) (taps : List Tap) : (s.commit n taps).GainsSound := by
  unfold State.commit
  dsimp only
  split
  · exact h.of_gains (s.gains_setStrip rfl)
  · split <;> exact h.setRetargeted n _ rfl

theorem State.GainsSound.takePlace (f : PlaceFields) (n : StripNo) (taps : List Tap) :
    (s.takePlace f n taps).GainsSound := by
  have hstaged (staged : Option (List Tap)) : (s.setStrip n { s.strip n with staged := staged }).GainsSound :=
    h.of_gains (s.gains_setStrip rfl)
  unfold State.takePlace
  dsimp only
  split
  · exact (hstaged none).commit n taps
  · split
    · exact hstaged (some taps)
    · exact (hstaged none).commit n _

theorem State.GainsSound.actPlace (source : Member) (f : PlaceFields) : (s.actPlace source f).GainsSound := by
  unfold State.actPlace
  split
  · exact h.refuse ..
  · split
    · exact h.takePlace ..
    · exact h.of_gains ((State.gains_refuse ..).trans (s.gains_setStrip rfl))

/-! ### Cues and the transport (R105 to R114) -/

theorem State.GainsSound.fireCue (n : StripNo) (c : Cue) : (s.fireCue n c).GainsSound :=
  h.setStrip n (s.fired_follows c _)

theorem State.GainsSound.takeCue (n : StripNo) (c : Cue) : (s.takeCue c n).GainsSound := by
  unfold State.takeCue
  split
  · split
    · exact (h.fireCue n c).of_gains (State.gains_latch ..)
    · split
      · exact h.fireCue n c
      · exact h.of_gains (s.gains_offerCueTo n c)
  · exact h.of_gains (s.gains_offerCueTo n c)

theorem State.GainsSound.actCue (source : Member) (f : CueFields) : (s.actCue source f).GainsSound :=
  h.stripCommand _ _ _ fun n => h.takeCue n (formCue f)

theorem State.GainsSound.actCueFlush (source : Member) (strip : Byte) : (s.actCueFlush source strip).GainsSound :=
  h.stripsCommand _ _ _ fun n t ht => ht.of_gains (t.gains_setCues n [])

theorem State.GainsSound.fireCues (q : Position) : (s.fireCues q).GainsSound := by
  have hfired : (s.mapStrips fun n st => s.firedAt q (s.cueList n) st).GainsSound :=
    h.mapStrips fun n => s.firedAt_follows q (s.cueList n) (s.strip n)
  exact hfired.of_gains (State.gains_congr (by simp only [State.fireCues]) (by simp only [State.fireCues]))

theorem State.GainsSound.stripsPark : s.stripsPark.GainsSound := h.mapStrips fun n => s.parkStrip_follows (s.strip n)

/-! ### Groups and faders (R33, R103, R104, R139 to R142) -/

theorem State.GainsSound.applyDelta (g : GroupNo) (change : Int) : (s.applyDelta g change).GainsSound := by
  refine State.GainsSound.of_gains (h.mapStrips fun n => ?_) (State.gains_latchStrips ..)
  exact .ite (fun _ => s.withDelta_follows change _) fun _ => s.follows_of_gain rfl

theorem State.GainsSound.takeDelta (g : GroupNo) (k : Key) (change : Int) : (s.takeDelta g k change).GainsSound := by
  unfold State.takeDelta
  split
  · exact (h.applyDelta g change).of_gains (State.gains_setGroup ..)
  · exact h.of_gains rfl

theorem State.GainsSound.announced (source : Member) (group strip : Byte) {act : GroupNo → Key → State → State}
    (hact : ∀ g k, (act g k s).GainsSound) : (s.announced source group strip act).GainsSound := by
  unfold State.announced
  split
  · exact hact ..
  · exact h

theorem State.GainsSound.touchOff (n : StripNo) : (s.touchOff n).GainsSound := by
  have hedged := h.setStripEffective n (s.strip n).glide (st := { s.strip n with touched := false })
    (fun e => Strip.gain_of_effective e rfl rfl (fun _ _ => rfl) rfl rfl) rfl
  unfold State.touchOff
  dsimp only
  split
  · split <;> exact hedged.of_gains (by simp)
  · exact h

theorem State.GainsSound.actTouch (source : Member) (strip touched : Byte) :
    (s.actTouch source strip touched).GainsSound := by
  refine h.stripCommand _ _ _ fun n => ?_
  split
  · exact h.of_gains (s.gains_touchOn n)
  · exact h.touchOff n

theorem State.GainsSound.handMove (n : StripNo) (change : Int) : (s.handMove n change).GainsSound := by
  unfold State.handMove
  split
  · exact h.ite ((h.applyDelta _ change).of_gains (State.gains_announce ..))
  · exact h

theorem State.GainsSound.actFader (source : Member) (strip : Byte) (level : BitVec 16) :
    (s.actFader source strip level).GainsSound := by
  refine h.stripCommand _ _ _ fun n => ?_
  unfold State.moveFader
  split
  · exact h
  · have hmoved := h.setStripEffective n moveRamp (st := { s.strip n with live := clampLevel level.toInt })
      (fun e => Strip.gain_of_effective e rfl rfl (fun _ _ => rfl) rfl rfl) rfl
    exact hmoved.handMove n _

/-! ### Solo and the Census (R117 to R120, R125 to R129) -/

/-- R118: a strip's soloed field is set and the local solo count with it, and the targets follow. -/
theorem State.GainsSound.setSoloed {t : State} {n : StripNo} {soloed : Bool}
    (hstrip : ∀ k, t.strip k = if n = k then { s.strip n with soloed } else s.strip k)
    (hactive : t.engine.activeMutes = s.engine.activeMutes) (hroles : t.census.roles = s.census.roles)
    (hsolo : t.census.soloActive = s.census.soloActive)
    (hlocal : t.census.localSolo + (s.strip n).soloed.toNat = s.census.localSolo + soloed.toNat) :
    (t.soloChanged n).GainsSound := by
  refine State.soloChanged_gainsSound (fun k hk => ?_) ⟨?_, hroles ▸ h.counted.roles⟩
  · rw [State.onTarget, hstrip, if_neg (Ne.symm hk), hactive, hsolo]
    exact h.targets k
  · have hcount := countP_soloed_set (fun k => (s.strip k).soloed) n soloed
    have hfield (k : StripNo) : (t.strip k).soloed = if n = k then soloed else (s.strip k).soloed := by
      rw [hstrip]
      split <;> rfl
    simp only [hfield]
    have := h.counted.count
    omega

theorem State.GainsSound.soloStrip (n : StripNo) : (s.soloStrip n).GainsSound := by
  unfold State.soloStrip
  split
  · exact h
  · rename_i hoff
    refine h.setSoloed (soloed := true) (fun k => ?_) ?_ ?_ ?_ ?_
    · rw [State.announce, State.strip_offer]
      exact State.strip_setStrip ..
    all_goals simp [State.announce, hoff]

theorem State.GainsSound.unsoloStrip (n : StripNo) : (s.unsoloStrip n).GainsSound := by
  unfold State.unsoloStrip
  split
  · rename_i hon
    have hpos : 0 < s.census.localSolo := by
      rw [h.counted.count]
      exact List.countP_pos_iff.mpr ⟨n, List.mem_finRange n, hon⟩
    refine h.setSoloed (soloed := false) (fun k => ?_) ?_ ?_ ?_ ?_
    · rw [State.announce, State.strip_offer]
      exact State.strip_setStrip ..
    all_goals simp [State.announce, hon]
    omega
  · exact h

theorem State.GainsSound.actSolo (source : Member) (strip state : Byte) : (s.actSolo source strip state).GainsSound := by
  refine h.stripsCommand _ _ _ fun n t ht => ?_
  split
  · exact ht.soloStrip n
  · exact ht.unsoloStrip n

/-- R119: solo active judged again after the tables or their roles changed. -/
theorem State.GainsSound.judged {t : State} (hengine : t.engine = s.engine) (hlocal : t.census.localSolo = s.census.localSolo)
    (hsolo : t.census.soloActive = s.census.soloActive)
    (hroles : t.census.roles.current ≠ t.census.roles.next ∧ t.census.roles.next ≠ t.census.roles.empty ∧
      t.census.roles.current ≠ t.census.roles.empty) : t.judgeSolo.GainsSound := by
  have hstrip (n : StripNo) : t.strip n = s.strip n := by rw [State.strip, hengine]; rfl
  refine State.judgeSolo_gainsSound (fun _ n => ?_) ⟨?_, hroles⟩
  · rw [hstrip, hsolo, hengine]
    exact h.targets n
  · simp only [hlocal, hstrip]
    exact h.counted.count

end

/-- R123: learning a key changes a table, and no more of the Census and nothing of the Strip Engine. -/
theorem State.learnIn_frame (i : Fin 3) (k : Key) (s : State) : (s.learnIn i k).engine = s.engine ∧
    (s.learnIn i k).census = { s.census with tables := (s.learnIn i k).census.tables } := by
  unfold State.learnIn
  dsimp only
  split <;> exact ⟨rfl, rfl⟩

section
variable {s : State} (h : s.GainsSound)
include h

theorem State.GainsSound.learnKey (k : Key) : (s.learnKey k).GainsSound := by
  obtain ⟨hengine, hcensus⟩ := s.learnIn_frame s.census.roles.current k
  obtain ⟨hengine', hcensus'⟩ := (s.learnIn s.census.roles.current k).learnIn_frame s.census.roles.next k
  refine h.judged (hengine'.trans hengine) ?_ ?_ ?_ <;> rw [hcensus', hcensus]
  exact h.counted.roles

theorem State.GainsSound.removeKey (k : Key) : (s.removeKey k).GainsSound := h.judged rfl rfl rfl h.counted.roles

theorem State.GainsSound.soloAnnounced (source : Member) (strip : Byte) {act : Key → State → State}
    (hact : ∀ k, (act k s).GainsSound) : (s.soloAnnounced source strip act).GainsSound := by
  unfold State.soloAnnounced
  split
  · exact hact _
  · exact h

/-- R127: a rotation passes the roles round. -/
theorem State.GainsSound.rotate : s.rotate.GainsSound := by
  obtain ⟨hcn, hne, hce⟩ := h.counted.roles
  exact h.judged rfl rfl rfl ⟨hne, hce.symm, hcn.symm⟩

theorem State.GainsSound.restartAging : s.restartAging.GainsSound := by
  have hrestarted : ({ s with census.agingCount := 0 } : State).GainsSound := h.of_gains rfl
  have hrotated : ({ s with census.agingCount := 0 } : State).rotateOrHold.GainsSound := by
    unfold State.rotateOrHold
    split
    · exact hrestarted.of_gains rfl
    · exact hrestarted.rotate
  exact hrotated.of_gains (by simp [State.restartAging, State.agingEvent])

/-- R119, R128: a table that is not the Current one may change. -/
theorem State.GainsSound.mapTable {i : Fin 3} (f : CensusTable → CensusTable) (hi : i ≠ s.census.roles.current) :
    (s.mapTable i f).GainsSound := by
  obtain ⟨hwanted, hcounted⟩ := s.soloSound_iff.mp h.solo
  refine ⟨h.targets, (State.soloSound_iff _).mpr ⟨?_, hcounted.count, hcounted.roles⟩⟩
  rw [State.soloWanted, State.mapTable_census_roles, State.table_mapTable, if_neg hi]
  exact hwanted

theorem State.GainsSound.clearStep (i : Fin 128) : (s.clearStep i).GainsSound := by
  have hcleared := h.mapTable (CensusTable.clearHome i) h.counted.roles.2.2.symm
  have htaken {t : State} (e : t.gains = (s.mapTable s.census.roles.empty (CensusTable.clearHome i)).gains) :
      t.GainsSound := hcleared.of_gains e
  unfold State.clearStep
  dsimp only
  split
  · exact htaken rfl
  · unfold State.clearingDone
    split
    · exact State.GainsSound.rotate (htaken rfl)
    · exact htaken rfl

/-! ### Clock, profile and samples (R54 to R61, R168 to R173) -/

theorem State.GainsSound.profileTaken (l : ProfileLoad) : (s.profileTaken l).GainsSound := by
  have hglide : (s.mapStrips fun _ st => { st with glide := l.profile.glide }).gains = s.gains :=
    s.gains_mapStrips fun _ => rfl
  refine h.of_gains ?_
  rw [State.profileTaken, State.gains_foldl fun _ _ => State.gains_latchNode ..]
  exact (State.gains_congr (by simp only) (by simp only)).trans hglide

omit h in
/-- R171: a NODE RESET leaves what a power reset leaves, apart from the strips' glide. -/
theorem State.nodeReset_gainsSound : s.nodeReset.GainsSound := by
  refine State.reset_gainsSound.of_gains ?_
  have hstrip (n : StripNo) : (s.nodeReset.strip n).gain = (State.reset.strip n).gain := by
    have : s.nodeReset.strip n = Strip.reset s.clock.profile.glide := by
      simp [State.strip, State.nodeReset, StripEngine.reset]
    rw [this, State.strip_reset]
    rfl
  simp only [State.gains, hstrip]
  rfl

theorem State.GainsSound.processSamples (samples : List Sample) : (s.begun.processSamples samples).GainsSound := by
  have hprocessed : (s.begun.mapStrips fun n st => s.begun.processed (s.begun.inputSample samples n) st).GainsSound :=
    (h.of_gains s.gains_begun).mapStrips fun n => s.begun.processed_follows _ (s.begun.strip n)
  refine hprocessed.of_gains ?_
  rw [State.processSamples, State.gains_latchStrips]
  exact State.gains_congr (by simp only) (by simp only)

theorem State.GainsSound.transportChange (rolling unitsFirst : Bool) :
    (s.transportChange rolling unitsFirst).GainsSound := by
  unfold State.transportChange
  split
  · exact h
  · split
    · exact h.of_gains s.gains_stripsRoll
    · unfold State.parkIn
      split
      · exact (h.of_gains (s.gains_unitsEnd ..)).stripsPark
      · exact h.stripsPark.of_gains (State.gains_unitsEnd ..)

theorem State.GainsSound.positionEvent (q : Position) (rolling unitsFirst : Bool) :
    (s.positionEvent q rolling unitsFirst).GainsSound := by
  unfold State.positionEvent
  split
  · split
    · exact h.of_gains (by simp [State.jump])
    · unfold State.positionIn
      split
      · exact (h.of_gains (s.gains_unitsPosition q)).fireCues q
      · exact (h.fireCues q).of_gains (State.gains_unitsPosition ..)
  · exact h

theorem State.GainsSound.takeReference (position : Position) (rolling valid : Bool) :
    (s.takeReference position rolling valid).GainsSound := by
  have hfaulted : (if valid then s else s.latchNode .positionFault).GainsSound := by
    split
    · exact h
    · exact h.of_gains rfl
  exact ((hfaulted.transportChange ..).positionEvent ..).of_gains rfl

/-! ### Messages by their kind (R84, R85, R98) -/

theorem State.GainsSound.act (kind : Byte) (source : Member) (p : List Byte) : (s.act kind source p).GainsSound := by
  unfold State.act
  split
  · exact h.actStripSet ..
  · exact h.actPlace ..
  · exact h.actCue ..
  · exact h.actCueFlush ..
  · exact h.actTouch ..
  · exact h.actFader ..
  · exact h.actSolo ..
  · exact h.actMuteGroup ..
  · exact h.of_gains (s.gains_actCaptureStart ..)
  · exact h.of_gains (s.gains_actCaptureStop ..)
  · exact h.of_gains (s.gains_actCaptureSuspend ..)
  · exact h.of_gains (s.gains_actCaptureResume ..)
  · exact h.of_gains (s.gains_actCaptureClear ..)
  · exact h.of_gains (s.gains_actOutputSet ..)
  · exact h.of_gains (s.gains_actQuery ..)
  · exact h.of_gains rfl
  · exact h.restartAging
  · exact s.nodeReset_gainsSound
  · exact h.announced _ _ _ fun g k => h.of_gains (s.gains_takeClaim g k)
  · exact h.announced _ _ _ fun g k => h.of_gains (s.gains_takeRelease g k)
  · exact h.announced _ _ _ fun g k => h.takeDelta g k _
  · exact h.soloAnnounced _ _ h.learnKey
  · exact h.soloAnnounced _ _ h.learnKey
  · exact h.soloAnnounced _ _ h.removeKey
  · exact h

theorem State.GainsSound.takeSlot (c : SlotCase) : (s.takeSlot c).GainsSound := by
  unfold State.takeSlot
  split
  · exact h
  · exact h.ite (h.of_gains (s.gains_ownReturn _))
  · exact h.of_gains rfl
  · exact h.ite (h.act ..)

theorem State.GainsSound.arrival (bytes : List Byte) : (s.arrival bytes).GainsSound := by
  unfold State.arrival
  split
  · exact h.of_gains rfl
  · split
    · have htaken : ((s.placeArrival bytes).takeSlot (classify s.clock.member (frameSlot bytes))).GainsSound :=
        State.GainsSound.takeSlot (s := s.placeArrival bytes) (h.of_gains rfl) _
      exact htaken.ite (htaken.of_gains (State.gains_countGood _))
    · exact h.of_gains rfl

end

end Sys2Proof.Machine
end

section
/-! O54: every command keeps the strips' targets and solo active what their inputs give. -/

namespace Sys2Proof.Machine

open Sys2Proof

section
variable {s : State} (h : s.GainsSound)
include h

theorem State.GainsSound.begun_emit : s.begun.emit.GainsSound :=
  h.of_gains ((State.gains_emit _).trans s.gains_begun)

theorem execWordClockEdge_gainsSound (e : Edge) : ∃ t, execWordClockEdge e s = .next t ∧ t.GainsSound := by
  refine ⟨_, rfl, ?_⟩
  split
  case h_1 | h_2 => exact h
  · exact h.of_gains s.gains_lockEdge
  case h_4 | h_5 => exact h.of_gains rfl
  case h_6 | h_7 => exact h.of_gains (by simp)
  all_goals exact h.of_gains rfl

theorem execRefreshWalkTurn_gainsSound : ∃ t, execRefreshWalkTurn s = .next t ∧ t.GainsSound := by
  have hturned : ({ s with clock.taken.walked := true } : State).GainsSound := h.of_gains rfl
  exact ⟨_, rfl, h.ite (hturned.ite (hturned.of_gains (State.gains_takeMark _)))⟩

theorem execMeterEvent_gainsSound : ∃ t, execMeterEvent s = .next t ∧ t.GainsSound := by
  have hrestarted : ({ s with reports.meterCount := 0 } : State).GainsSound := h.of_gains rfl
  exact ⟨_, rfl, h.ite (hrestarted.ite (hrestarted.of_gains (State.gains_meterReports _)))⟩

theorem execCensusClearing_gainsSound : ∃ t, execCensusClearing s = .next t ∧ t.GainsSound := by
  refine ⟨_, rfl, ?_⟩
  split
  · exact h.ite (h.clearStep _)
  · exact h

end

/-- Every command answers a state with its strips on their targets and solo active as its terms make it. -/
theorem exec_gainsSound {s : State} (h : s.GainsSound) (c : Instr) : ∃ t, exec c s = .next t ∧ t.GainsSound := by
  cases c with
  | powerReset => exact ⟨_, rfl, State.reset_gainsSound.of_gains rfl⟩
  | powerResetRelease straps => exact ⟨_, rfl, h.ite (State.reset_gainsSound.of_gains rfl)⟩
  | profileReadEnd memory => exact ⟨_, rfl, h.ite (h.profileTaken _)⟩
  | lockGained => exact ⟨_, rfl, h.ite (h.of_gains rfl)⟩
  | lossOfLock => exact ⟨_, rfl, h.ite (h.of_gains rfl)⟩
  | joining frame => exact ⟨_, rfl, h.ite (h.arrival frame)⟩
  | quietWindowEnd => exact ⟨_, rfl, h.ite (h.of_gains rfl)⟩
  | frameArrival frame => exact ⟨_, rfl, h.ite (h.arrival frame)⟩
  | frameEmission => exact ⟨_, rfl, h.ite h.begun_emit⟩
  | faultBegun anchor => exact ⟨_, rfl, h.ite h.begun_emit⟩
  | runCompleted anchor => exact ⟨_, rfl, h.ite h.begun_emit⟩
  | realignSwitch anchor => exact ⟨_, rfl, h.ite (h.of_gains s.gains_processOutputs)⟩
  | enterRunning anchor => exact ⟨_, rfl, h.ite (h.of_gains s.gains_processOutputs)⟩
  | insertion => exact ⟨_, rfl, h.of_gains s.gains_insert⟩
  | inflightTimeout => exact ⟨_, rfl, h.of_gains s.gains_timeoutEntries⟩
  | historyAdvance => exact ⟨_, rfl, h.ite (h.of_gains s.gains_begun)⟩
  | sampleProcessing samples => exact ⟨_, rfl, h.ite (h.processSamples samples)⟩
  | swapCompletion strip samples => exact ⟨_, rfl, h.ite (h.processSamples samples)⟩
  | outputProcessing => exact ⟨_, rfl, h.ite (h.of_gains s.gains_processOutputs)⟩
  | referenceEvent position rolling valid => exact ⟨_, rfl, h.ite (h.takeReference ..)⟩
  | keepalive unit position => exact ⟨_, rfl, h.ite (h.takeReference ..)⟩
  | packingTurn unit => exact ⟨_, rfl, h.ite (h.of_gains (s.gains_packingTurn unit))⟩
  | drainEnd unit => exact ⟨_, rfl, h.ite (h.of_gains (s.gains_packingTurn unit))⟩
  | heldEndOffer unit => exact ⟨_, rfl, h.ite (h.of_gains (s.gains_packingTurn unit))⟩
  | agingEvent => exact ⟨_, rfl, h.ite h.restartAging⟩
  | leadLapse group => exact ⟨_, rfl, h.ite h.restartAging⟩
  | censusClearing => exact execCensusClearing_gainsSound h
  | clearingComplete => exact ⟨_, rfl, h.ite (h.clearStep 127)⟩
  | refreshWalkTurn => exact execRefreshWalkTurn_gainsSound h
  | meterEvent => exact execMeterEvent_gainsSound h
  | scannerVisit => exact ⟨_, rfl, h.ite ((h.of_gains (s.gains_visit _)).of_gains rfl)⟩
  | inputFramingLost port => exact ⟨_, rfl, h.ite (h.of_gains rfl)⟩
  | inputFramingGained port => exact ⟨_, rfl, h.ite (h.of_gains rfl)⟩
  | stripSet source fields => exact ⟨_, rfl, h.whenActing source (h.actStripSet source fields)⟩
  | place source fields => exact ⟨_, rfl, h.whenActing source (h.actPlace source fields)⟩
  | muteGroup source group state => exact ⟨_, rfl, h.whenActing source (h.actMuteGroup source group state)⟩
  | cue source fields => exact ⟨_, rfl, h.whenActing source (h.actCue source fields)⟩
  | cueFlush source strip => exact ⟨_, rfl, h.whenActing source (h.actCueFlush source strip)⟩
  | touch source strip touched => exact ⟨_, rfl, h.whenActing source (h.actTouch source strip touched)⟩
  | fader source strip level => exact ⟨_, rfl, h.whenActing source (h.actFader source strip level)⟩
  | solo source strip state => exact ⟨_, rfl, h.whenActing source (h.actSolo source strip state)⟩
  | soloOn source strip => exact ⟨_, rfl, h.whenActing source (h.soloAnnounced source strip h.learnKey)⟩
  | soloRefresh source strip => exact ⟨_, rfl, h.whenActing source (h.soloAnnounced source strip h.learnKey)⟩
  | soloOff source strip => exact ⟨_, rfl, h.whenActing source (h.soloAnnounced source strip h.removeKey)⟩
  | censusSweep source => exact ⟨_, rfl, h.whenActing source h.restartAging⟩
  | groupClaim source group strip =>
    exact ⟨_, rfl, h.whenActing source (h.announced _ _ _ fun g k => h.of_gains (s.gains_takeClaim g k))⟩
  | groupRelease source group strip =>
    exact ⟨_, rfl, h.whenActing source (h.announced _ _ _ fun g k => h.of_gains (s.gains_takeRelease g k))⟩
  | groupDelta source group strip change =>
    exact ⟨_, rfl, h.whenActing source (h.announced _ _ _ fun g k => h.takeDelta g k _)⟩
  | captureStart source fields => exact ⟨_, rfl, h.whenActing source (h.of_gains (s.gains_actCaptureStart ..))⟩
  | captureStop source unit => exact ⟨_, rfl, h.whenActing source (h.of_gains (s.gains_actCaptureStop ..))⟩
  | captureSuspend source unit => exact ⟨_, rfl, h.whenActing source (h.of_gains (s.gains_actCaptureSuspend ..))⟩
  | captureResume source unit => exact ⟨_, rfl, h.whenActing source (h.of_gains (s.gains_actCaptureResume ..))⟩
  | captureClear source unit => exact ⟨_, rfl, h.whenActing source (h.of_gains (s.gains_actCaptureClear ..))⟩
  | outputSet source fields => exact ⟨_, rfl, h.whenActing source (h.of_gains (s.gains_actOutputSet ..))⟩
  | reportControl source fields => exact ⟨_, rfl, h.whenActing source (h.of_gains rfl)⟩
  | queryStrip source object clear => exact ⟨_, rfl, h.whenActing source (h.of_gains (s.gains_actQueryStrip ..))⟩
  | queryCues source object clear => exact ⟨_, rfl, h.whenActing source (h.of_gains (s.gains_actQueryCues ..))⟩
  | queryCensus source object clear => exact ⟨_, rfl, h.whenActing source (h.of_gains (s.gains_actQueryCensus ..))⟩
  | queryGroup source object clear => exact ⟨_, rfl, h.whenActing source (h.of_gains (s.gains_actQueryGroup ..))⟩
  | queryCapture source object clear => exact ⟨_, rfl, h.whenActing source (h.of_gains (s.gains_actQueryCapture ..))⟩
  | queryAnchor source object clear => exact ⟨_, rfl, h.whenActing source (h.of_gains (s.gains_actQueryAnchor ..))⟩
  | queryCounters source object clear =>
    exact ⟨_, rfl, h.whenActing source (h.of_gains (s.gains_actQueryCounters ..))⟩
  | nodeReset source => exact ⟨_, rfl, h.whenActing source s.nodeReset_gainsSound⟩
  | wordClockEdge edge => exact execWordClockEdge_gainsSound h edge

/-- What every command keeps, whatever waits in the queue, every step keeps: it runs a command, or idles. -/
theorem step_keeps {p : State → Prop} (hpending : ∀ (s : State) (queue : List Instr), p s → p { s with pending := queue })
    (hexec : ∀ s : State, p s → ∀ c, ∃ t, exec c s = .next t ∧ p t) {s t : State} (h : p s) (e : step s = .next t) : p t := by
  unfold step at e
  split at e
  · cases e
    exact h
  · rename_i c rest _
    obtain ⟨t', e', ht⟩ := hexec _ (hpending s rest h) c
    rw [e'] at e
    cases e
    exact ht

/-- Settles O54: whatever a command does to a strip or to the solo terms is followed by the recomputations that R45 and R119 ask
for, or leaves the target's inputs as they were. -/
theorem everyStepKeepsTargetsAndSoloActive : Obligations.EveryStepKeepsTargetsAndSoloActive := fun _ _ htargets hsolo e =>
  have h : State.GainsSound _ :=
    step_keeps (fun _ _ h => h.of_gains rfl) (fun _ h c => exec_gainsSound h c) ⟨htargets, hsolo⟩ e
  ⟨h.targets, h.solo⟩

end Sys2Proof.Machine
end

section
/-! O30: a ramp from its restart to its end (R46, R48, R49). -/

namespace Sys2Proof.Machine

open Sys2Proof

/-! ### The truncated line from start to target (R49) -/

/-- R49: the coefficient after `k` of the `length` steps of a ramp. -/
def rampLine (start target length k : Nat) : Nat :=
  ((start : Int) + (((target : Int) - start) * k).tdiv length).toNat

section
variable {start target length k : Nat}

theorem rampLine_zero : rampLine start target length 0 = start := by simp [rampLine]

/-- R49: at k = R the quotient is exactly the difference. -/
theorem rampLine_length (hlength : 0 < length) : rampLine start target length length = target := by
  have hquotient : (((target : Int) - start) * (length : Int)).tdiv length = (target : Int) - start :=
    Int.mul_tdiv_cancel _ (by omega)
  rw [rampLine, hquotient]
  omega

/-- The line stays between its ends, so nothing is lost in reading it as a natural number. -/
theorem rampLine_cast (hlength : 0 < length) (hk : k ≤ length) :
    (rampLine start target length k : Int) = start + (((target : Int) - start) * k).tdiv length := by
  have := tdiv_between (d := (target : Int) - start) hk hlength
  rw [rampLine]
  omega

theorem rampLine_between (hlength : 0 < length) (hk : k ≤ length) :
    min start target ≤ rampLine start target length k ∧ rampLine start target length k ≤ max start target := by
  have := tdiv_between (d := (target : Int) - start) hk hlength
  rw [rampLine]
  omega

/-- R49: on a rising ramp the quotient is the floor, so the line is not above the exact one. -/
theorem rampLine_rising (hlength : 0 < length) (hk : k ≤ length) (h : start ≤ target) :
    ((rampLine start target length k : Int) - start) * length ≤ ((target : Int) - start) * k := by
  have hproduct : 0 ≤ ((target : Int) - start) * k := mul_nonneg (by omega) (by omega)
  rw [rampLine_cast hlength hk, add_sub_cancel_left, Int.tdiv_eq_ediv_of_nonneg hproduct]
  exact Int.ediv_mul_le _ (by omega)

/-- R49: on a falling ramp the quotient falls short of the exact one too, so the line is not below it. -/
theorem rampLine_falling (hlength : 0 < length) (hk : k ≤ length) (h : target ≤ start) :
    ((target : Int) - start) * k ≤ ((rampLine start target length k : Int) - start) * length := by
  have hproduct : 0 ≤ -(((target : Int) - start) * k) := by
    rw [← neg_mul]
    exact mul_nonneg (by omega) (by omega)
  have hfloor := Int.ediv_mul_le (-(((target : Int) - start) * k)) (b := (length : Int)) (by omega)
  rw [← Int.tdiv_eq_ediv_of_nonneg hproduct, Int.neg_tdiv] at hfloor
  rw [rampLine_cast hlength hk, add_sub_cancel_left]
  linarith

/-- R49: a ramp that falls to 0 is above 0 before its last step. -/
theorem rampLine_pos_of_falling_to_zero (hk : k < length) (hstart : 0 < start) : 0 < rampLine start 0 length k := by
  have hline := rampLine_falling (start := start) (Nat.zero_lt_of_lt hk) hk.le (Nat.zero_le start)
  by_contra hzero
  have hshort : start * length ≤ start * k := by
    rw [Nat.eq_zero_of_not_pos hzero] at hline
    zify
    push_cast at hline
    linarith
  exact absurd (Nat.le_of_mul_le_mul_left hshort hstart) (by omega)

/-- R49: a ramp that rises from 0 takes its first nonzero step where the exact line reaches 1. -/
theorem rampLine_eq_zero_iff_of_rising_from_zero (hlength : 0 < length) :
    rampLine 0 target length k = 0 ↔ target * k < length := by
  have hline : rampLine 0 target length k = target * k / length := by
    rw [rampLine]
    simp only [Nat.cast_zero, sub_zero, zero_add]
    rw [Int.tdiv_eq_ediv_of_nonneg (by positivity)]
    rfl
  rw [hline, Nat.div_eq_zero_iff_lt hlength]

end

/-! ### The steps of a ramp (R46, R48, R49) -/

/-- The ramp that a restart makes, after `k` steps. -/
def Ramp.restarted (applied target length k : Nat) : Ramp :=
  { applied := rampLine applied target length k, start := applied, target, length, step := k }

/-- R48: a recomputation to another target. -/
theorem Ramp.retarget_of_ne {r : Ramp} {target : Nat} (length : Nat) (h : target ≠ r.target) :
    r.retarget target length = Ramp.restarted r.applied target length 0 := by
  rw [Ramp.retarget, if_neg h, Ramp.restarted, rampLine_zero]

/-- R46, R49: one step more, until the step reaches the length. -/
theorem Ramp.restarted_advance (applied target length k : Nat) :
    (Ramp.restarted applied target length (min k length)).advance =
      Ramp.restarted applied target length (min (k + 1) length) := by
  rw [Ramp.advance_eq]
  by_cases hk : k < length
  · have hstep : (Ramp.restarted applied target length k).stepOnce = Ramp.restarted applied target length (k + 1) := by
      simp only [Ramp.stepOnce, Ramp.restarted, rampLine, Nat.cast_add, Nat.cast_one]
    rw [min_eq_left hk.le, min_eq_left hk]
    exact (if_pos hk).trans hstep
  · rw [min_eq_right (by omega), min_eq_right (by omega)]
    exact if_neg (lt_irrefl length)

theorem Ramp.iterate_advance_restarted (applied target length k : Nat) :
    Ramp.advance^[k] (Ramp.restarted applied target length 0) = Ramp.restarted applied target length (min k length) := by
  induction k with
  | zero => rw [Nat.zero_min]; rfl
  | succ k ih => rw [Function.iterate_succ_apply', ih, Ramp.restarted_advance]

/-- Settles O30: after `k` steps the restarted ramp stands on the truncated line at step `min k R`. -/
theorem restartedRampReachesItsTargetAtTheLastStep : Obligations.RestartedRampReachesItsTargetAtTheLastStep := by
  intro r target length hlength
  refine ⟨fun hsame => hsame ▸ r.retarget_eq_self length, fun hne k at_k hat => ?_⟩
  rw [Ramp.retarget_of_ne length hne, Ramp.iterate_advance_restarted] at hat
  subst hat
  refine ⟨rfl, rfl, rfl, rfl, fun hend => ?_, fun hk => ?_⟩
  · rw [min_eq_right hend]
    exact rampLine_length hlength
  · rw [min_eq_left hk.le]
    obtain ⟨hlow, hhigh⟩ := rampLine_between (start := r.applied) (target := target) hlength hk.le
    refine ⟨rampLine_cast hlength hk.le, hlow, hhigh, rampLine_rising hlength hk.le, rampLine_falling hlength hk.le,
      fun hzero hpos => ?_, fun hzero => ?_⟩
    · subst hzero
      exact rampLine_pos_of_falling_to_zero hk hpos
    · rw [Ramp.restarted, hzero]
      exact rampLine_eq_zero_iff_of_rising_from_zero hlength

end Sys2Proof.Machine
end

section
/-! O31: the coefficient of a level against 4,194,304 × 10^(L/200) over the reals (R43). -/

namespace Sys2Proof.Machine

open Sys2Proof

/-! ### What the search finds -/

/-- A number below one that is at most a half too great is so too. -/
theorem halfBelow_of_le {level : Int} {m n : Nat} (hmn : m ≤ n) (h : halfBelow level n = true) :
    halfBelow level m = true := by
  have hpow := Nat.pow_le_pow_left (Nat.mul_le_mul_right (10 ^ (-(level / 200)).toNat) (by omega : 2 * m - 1 ≤ 2 * n - 1)) 200
  exact decide_eq_true (hpow.trans (of_decide_eq_true h))

theorem halfBelow_zero (level : Int) : halfBelow level 0 = true := by simp [halfBelow]

theorem coefSearch_lt (level : Int) (bits acc : Nat) : coefSearch level bits acc < acc + 2 ^ bits := by
  induction bits generalizing acc with
  | zero => exact Nat.lt_succ_self acc
  | succ bits ih =>
    have hlow := ih acc
    have hhigh := ih (acc + 2 ^ bits)
    rw [coefSearch, pow_succ]
    cases halfBelow level (acc + 2 ^ bits) <;> simp only [cond_true, cond_false] <;> omega

/-- The search finds the greatest number of its range that `halfBelow` holds of. -/
theorem le_coefSearch_iff {level : Int} {bits acc n : Nat} (hacc : halfBelow level acc = true) (hn : n < acc + 2 ^ bits) :
    n ≤ coefSearch level bits acc ↔ halfBelow level n = true := by
  induction bits generalizing acc with
  | zero => exact iff_of_true (Nat.lt_succ_iff.mp hn) (halfBelow_of_le (Nat.lt_succ_iff.mp hn) hacc)
  | succ bits ih =>
    rw [pow_succ] at hn
    rw [coefSearch]
    cases hmid : halfBelow level (acc + 2 ^ bits) with
    | true => exact ih hmid (by omega)
    | false =>
      rcases lt_or_ge n (acc + 2 ^ bits) with hlow | hhigh
      · exact ih hacc hlow
      · refine iff_of_false (fun h => ?_) fun h => ?_
        · exact absurd (coefSearch_lt level bits acc) (by simp only [cond_false] at h; omega)
        · rw [halfBelow_of_le hhigh h] at hmid
          cases hmid

/-- R43: up to +120 the coefficient is the greatest number that `halfBelow` holds of. -/
theorem le_coef_iff {level : Int} (hlow : -1000 < level) (hhigh : level ≤ 120) (n : Nat) :
    n ≤ coef level ↔ halfBelow level n = true := by
  rw [coef, if_neg (by omega), min_eq_left hhigh]
  rcases lt_or_ge n (2 ^ 24) with hn | hn
  · exact le_coefSearch_iff (halfBelow_zero level) (by omega)
  · refine iff_of_false (fun h => ?_) fun h => ?_
    · exact absurd (coefSearch_lt level 24 0) (by omega)
    · exact absurd (le_of_halfBelow hhigh h) (by omega)

theorem coef_eq {level : Int} (hlow : -1000 < level) (hhigh : level ≤ 120) {n : Nat} (h : halfBelow level n = true)
    (hnext : halfBelow level (n + 1) = false) : coef level = n := by
  refine le_antisymm (Nat.le_of_lt_succ ?_) ((le_coef_iff hlow hhigh n).mpr h)
  rw [← Nat.not_le, le_coef_iff hlow hhigh, hnext]
  decide

/-! ### The exact coefficient -/

/-- R43: 4,194,304 × 10^(L/200), of which the coefficient is the nearest integer. -/
noncomputable def exactCoef (level : Int) : ℝ := 4194304 * (10 : ℝ) ^ ((level : ℝ) / 200)

theorem exactCoef_pos (level : Int) : 0 < exactCoef level := by
  unfold exactCoef
  positivity

theorem exactCoef_mono {lower upper : Int} (h : lower ≤ upper) : exactCoef lower ≤ exactCoef upper := by
  have hlevels : (lower : ℝ) ≤ upper := by exact_mod_cast h
  exact mul_le_mul_of_nonneg_left (Real.rpow_le_rpow_of_exponent_le (by norm_num) (by linarith)) (by norm_num)

/-- With L = r − 200 k, the 200th power of twice the exact coefficient is a whole number once scaled by 10^k. -/
theorem exactCoef_pow {level : Int} (h : level < 200) :
    (2 * exactCoef level * 10 ^ (-(level / 200)).toNat) ^ 200 = 8388608 ^ 200 * 10 ^ (level % 200).toNat := by
  have hlevel : (level : ℝ) / 200 * 200 + ((-(level / 200)).toNat * 200 : ℕ) = ((level % 200).toNat : ℕ) := by
    have hsplit : level + ((-(level / 200)).toNat * 200 : ℕ) = ((level % 200).toNat : ℕ) := by omega
    rw [div_mul_cancel₀ _ (by norm_num)]
    exact_mod_cast hsplit
  have htens : ((10 : ℝ) ^ ((level : ℝ) / 200)) ^ 200 * (10 ^ (-(level / 200)).toNat) ^ 200 = 10 ^ (level % 200).toNat := by
    rw [← Real.rpow_mul_natCast (by norm_num), ← pow_mul, ← Real.rpow_natCast, ← Real.rpow_natCast,
      ← Real.rpow_add (by norm_num)]
    exact congrArg _ hlevel
  rw [exactCoef, ← mul_assoc, mul_pow, mul_pow, mul_assoc, htens]
  norm_num

/-- `halfBelow` says in whole numbers that `n` exceeds the exact coefficient by at most a half. -/
theorem halfBelow_iff {level : Int} (h : level < 200) (n : Nat) :
    halfBelow level n = true ↔ (n : ℝ) - 1 / 2 ≤ exactCoef level := by
  have hpos := exactCoef_pos level
  cases n with
  | zero => exact iff_of_true (halfBelow_zero level) (by push_cast; linarith)
  | succ n =>
    have hpow : halfBelow level (n + 1) = true ↔
        (((2 * n + 1 : ℕ) : ℝ) * 10 ^ (-(level / 200)).toNat) ^ 200 ≤
          (2 * exactCoef level * 10 ^ (-(level / 200)).toNat) ^ 200 := by
      rw [halfBelow, decide_eq_true_iff, exactCoef_pow h]
      exact_mod_cast Iff.rfl
    rw [hpow, pow_le_pow_iff_left₀ (by positivity) (by positivity) (by norm_num), mul_le_mul_iff_left₀ (by positivity)]
    push_cast
    constructor <;> intro <;> linarith

/-- A power of an odd multiple of 10^k holds the factor 2 no more than `k * p` times. -/
theorem odd_mul_ten_pow_ne {m k p e x : Nat} (hm : Odd m) (h : k * p < e) : (m * 10 ^ k) ^ p ≠ 2 ^ e * x := by
  intro hpow
  obtain ⟨d, rfl⟩ := Nat.exists_eq_add_of_lt h
  have hleft : (m * 10 ^ k) ^ p = 2 ^ (k * p) * (m * 5 ^ k) ^ p := by
    rw [pow_mul, ← mul_pow, show 10 = 2 * 5 from rfl, mul_pow 2 5 k, Nat.mul_left_comm]
  have hright : 2 ^ (k * p + d + 1) * x = 2 ^ (k * p) * (2 * (2 ^ d * x)) := by
    rw [pow_succ, pow_add]
    ring
  have heven : (m * 5 ^ k) ^ p = 2 * (2 ^ d * x) :=
    Nat.eq_of_mul_eq_mul_left (by positivity) (hleft.symm.trans (hpow.trans hright))
  have hodd : Odd ((m * 5 ^ k) ^ p) := (hm.mul (Odd.pow (by decide))).pow
  rw [heven] at hodd
  exact Nat.not_odd_iff_even.mpr (even_two_mul _) hodd

/-- R43: no exact coefficient stands halfway between two integers: scaled by 10^k its 200th power would hold the factor 2 both
4600 times or more and 200 k times, k being at most 5. -/
theorem exactCoef_ne_half {level : Int} (hlow : -1000 ≤ level) (h : level < 200) (n : Nat) :
    exactCoef level ≠ (n : ℝ) + 1 / 2 := by
  intro he
  have htwice : 2 * exactCoef level = ((2 * n + 1 : ℕ) : ℝ) := by
    rw [he]
    push_cast
    ring
  have hpow := exactCoef_pow h
  rw [htwice, show (8388608 : ℝ) = (2 : ℝ) ^ 23 by norm_num, ← pow_mul] at hpow
  generalize htwos : 23 * 200 = twos at hpow
  have hfew : (-(level / 200)).toNat * 200 < twos := by omega
  exact odd_mul_ten_pow_ne (x := 10 ^ (level % 200).toNat) (odd_two_mul_add_one n) hfew (by exact_mod_cast hpow)

/-- R43: the coefficient is the nearest integer. -/
theorem coef_nearest {level : Int} (hlow : -1000 < level) (hhigh : level ≤ 120) :
    |(coef level : ℝ) - exactCoef level| < 1 / 2 := by
  have hbelow := (halfBelow_iff (by omega) _).mp ((le_coef_iff hlow hhigh (coef level)).mp le_rfl)
  have habove : ¬((coef level + 1 : ℕ) : ℝ) - 1 / 2 ≤ exactCoef level := fun h =>
    absurd ((le_coef_iff hlow hhigh _).mpr ((halfBelow_iff (by omega) _).mpr h)) (Nat.not_succ_le_self _)
  have hne : (coef level : ℝ) - 1 / 2 ≠ exactCoef level := by
    intro he
    have hpos := exactCoef_pos level
    cases hc : coef level with
    | zero =>
      rw [hc] at he
      push_cast at he
      linarith
    | succ n =>
      refine exactCoef_ne_half hlow.le (by omega) n ?_
      rw [← he, hc]
      push_cast
      ring
  have hstrict := lt_of_le_of_ne hbelow hne
  push_cast at habove
  rw [abs_lt]
  constructor <;> linarith

/-- R43: the coefficient never falls as the level rises. -/
theorem coef_mono {lower upper : Int} (h : lower ≤ upper) (hhigh : upper ≤ 120) : coef lower ≤ coef upper := by
  rcases le_or_gt lower (-1000) with hlow | hlow
  · rw [coef, if_pos hlow]
    exact Nat.zero_le _
  · have hbelow := (halfBelow_iff (by omega) _).mp ((le_coef_iff hlow (h.trans hhigh) (coef lower)).mp le_rfl)
    exact (le_coef_iff (by omega) hhigh _).mpr ((halfBelow_iff (by omega) _).mpr (hbelow.trans (exactCoef_mono h)))

/-- Settles O31: the search finds the greatest integer that exceeds the exact coefficient by at most a half, and none exceeds it
by a half exactly. -/
theorem coefficientIsTheNearestInteger : Obligations.CoefficientIsTheNearestInteger := by
  refine ⟨fun level h => if_pos h, fun level hlow hhigh => coef_nearest (by omega) hhigh, fun _ _ => coef_mono, ?_⟩
  refine ⟨?_, ?_, ?_, ?_, ?_, ?_, ?_, ?_, ?_, ?_, ?_, ?_⟩
  all_goals exact coef_eq (by decide) (by decide) (by decide) (by decide)

end Sys2Proof.Machine
end

section
/-! O48: the meter event (R58, R76, R162, R163). -/

namespace Sys2Proof.Machine

open Sys2Proof

/-! ### Peaks cleared block by block (R58, R76, R163) -/

/-- A strip with its peak cleared. -/
def Strip.peakCleared (st : Strip) : Strip := { st with peak := 0 }

/-- An anchor with its peak cleared. -/
def Anchor.peakCleared (a : Anchor) : Anchor := { a with peak := 0 }

/-- What a strip or an anchor is after the reports of the first `blocks` blocks, by its number. -/
def reported {α : Type} (clear : α → α) (blocks n : Nat) (x : α) : α := if n / 8 < blocks then clear x else x

section
variable {α : Type} (clear : α → α)

theorem mapIdx_reported_zero (l : List α) : l.mapIdx (reported clear 0) = l := by
  refine List.ext_getElem (by simp) fun n _ _ => ?_
  rw [List.getElem_mapIdx, reported, if_neg (Nat.not_lt_zero _)]

/-- One block more. -/
theorem reported_succ (b n : Nat) (x : α) :
    (if blockOf b n then clear (reported clear b n x) else reported clear b n x) = reported clear (b + 1) n x := by
  unfold blockOf reported
  rcases lt_trichotomy (n / 8) b with h | h | h
  · rw [if_neg (by simp; omega), if_pos h, if_pos (by omega)]
  · rw [if_pos (by simp [h]), if_neg (by omega), if_pos (by omega)]
  · rw [if_neg (by simp; omega), if_neg (by omega), if_neg (by omega)]

/-- A block still to come holds what it held. -/
theorem block_mapIdx_reported (b : Nat) (l : List α) :
    ((l.mapIdx (reported clear b)).drop (8 * b)).take 8 = (l.drop (8 * b)).take 8 := by
  have hkept : (l.mapIdx (reported clear b)).drop (8 * b) = l.drop (8 * b) := by
    refine List.ext_getElem (by simp) fun i _ _ => ?_
    rw [List.getElem_drop, List.getElem_drop, List.getElem_mapIdx, reported, if_neg (by omega)]
  rw [hkept]

end

/-! ### The blocks of a meter event (R162, R163) -/

/-- R163: the message of one strip block. -/
def State.stripBlock (s : State) (b : Nat) : OutMsg :=
  { dest := s.reportMember, body := .meter false b (s.stripCodes b) }

/-- R163: the message of one anchor block. -/
def State.anchorBlock (s : State) (b : Nat) : OutMsg :=
  { dest := s.reportMember, body := .meter true b (s.anchorCodes b) }

/-- The state in which the first `strips` strip blocks and the first `anchors` anchor blocks have been queued and their peaks
cleared. -/
def State.metered (s : State) (strips anchors : Nat) : State :=
  { s with
    engine.strips := s.engine.strips.mapIdx (reported Strip.peakCleared strips)
    outputs.anchors := s.outputs.anchors.mapIdx (reported Anchor.peakCleared anchors)
    message.outbound := s.message.outbound ++
      ((List.range strips).map s.stripBlock ++ (List.range anchors).map s.anchorBlock) }

section
variable (s : State)

theorem State.metered_zero : s.metered 0 0 = s := by
  have hstrips : s.engine.strips.mapIdx (reported Strip.peakCleared 0) = s.engine.strips :=
    Vector.toList_inj.mp (by rw [Vector.toList_mapIdx, mapIdx_reported_zero])
  simp [State.metered, hstrips, mapIdx_reported_zero]

theorem State.metered_freeEntries (c d : Nat) : (s.metered c d).freeEntries = 32 - (s.message.outbound.length + (c + d)) := by
  simp [State.metered, State.freeEntries, queueLimit]

/-- R162: a METER that finds four free entries joins the tail. -/
theorem State.offer_meter {s : State} (dest : Byte) (anchors : Bool) (b : Nat) (codes : List Nat) (hfree : 4 ≤ s.freeEntries) :
    s.offer { dest, body := .meter anchors b codes } =
      { s with message.outbound := s.message.outbound ++ [{ dest, body := .meter anchors b codes }] } := by
  refine State.offer_of_room rfl ?_
  unfold State.freeEntries queueLimit at hfree
  omega

theorem State.stripBlock_metered (b : Nat) : (s.metered b 0).stripBlock b = s.stripBlock b := by
  have hcodes : (s.metered b 0).stripCodes b = s.stripCodes b := by
    simp only [State.stripCodes, State.metered, Vector.toList_mapIdx, block_mapIdx_reported]
  rw [State.stripBlock, hcodes]
  rfl

theorem State.anchorBlock_metered (c b : Nat) : (s.metered c b).anchorBlock b = s.anchorBlock b := by
  have hcodes : (s.metered c b).anchorCodes b = s.anchorCodes b := by
    simp only [State.anchorCodes, State.metered, block_mapIdx_reported]
  rw [State.anchorBlock, hcodes]
  rfl

/-- R162: a strip block that finds four free entries. -/
theorem State.metered_stripMeter {b : Nat} (hfree : 4 ≤ (s.metered b 0).freeEntries) :
    (s.metered b 0).stripMeter b = s.metered (b + 1) 0 := by
  have hstrips : (Vector.ofFn fun n : Fin 32 => if blockOf b n.val then ((s.metered b 0).engine.strips[n]).peakCleared
      else (s.metered b 0).engine.strips[n]) = s.engine.strips.mapIdx (reported Strip.peakCleared (b + 1)) := by
    ext1 n hn
    simp only [State.metered, Vector.getElem_ofFn, Fin.getElem_fin, Vector.getElem_mapIdx]
    exact reported_succ ..
  have hoffer : (s.metered b 0).offer (s.stripBlock b) = { s.metered b 0 with
      message.outbound := (s.metered b 0).message.outbound ++ [s.stripBlock b] } := State.offer_meter _ _ _ _ hfree
  rw [State.stripMeter, if_pos hfree, ← State.stripBlock, State.stripBlock_metered, hoffer, State.mapStrips]
  simp only [State.metered] at hstrips ⊢
  simp [List.range_succ, ← hstrips, Strip.peakCleared]

/-- R162: an anchor block that finds four free entries. -/
theorem State.metered_anchorMeter {c b : Nat} (hfree : 4 ≤ (s.metered c b).freeEntries) :
    (s.metered c b).anchorMeter b = s.metered c (b + 1) := by
  have hanchors : clearAnchorPeaks b (s.outputs.anchors.mapIdx (reported Anchor.peakCleared b)) =
      s.outputs.anchors.mapIdx (reported Anchor.peakCleared (b + 1)) := by
    refine List.ext_getElem (by simp [clearAnchorPeaks]) fun m _ _ => ?_
    simp only [clearAnchorPeaks, List.getElem_mapIdx]
    exact reported_succ ..
  have hoffer : (s.metered c b).offer (s.anchorBlock b) = { s.metered c b with
      message.outbound := (s.metered c b).message.outbound ++ [s.anchorBlock b] } := State.offer_meter _ _ _ _ hfree
  rw [State.anchorMeter, if_pos hfree, ← State.anchorBlock, State.anchorBlock_metered, hoffer]
  simp [State.metered, hanchors, List.range_succ]

theorem State.foldl_stripMeter (k : Nat) :
    (List.range k).foldl State.stripMeter s = s.metered (min k (29 - s.message.outbound.length)) 0 := by
  induction k with
  | zero => rw [Nat.zero_min, State.metered_zero]; rfl
  | succ k ih =>
    have hfree := s.metered_freeEntries (min k (29 - s.message.outbound.length)) 0
    rw [List.range_succ, List.foldl_append, ih, List.foldl_cons, List.foldl_nil]
    rcases lt_or_ge k (29 - s.message.outbound.length) with hk | hk
    · rw [min_eq_left hk.le] at hfree ⊢
      rw [s.metered_stripMeter (by omega), min_eq_left (by omega)]
    · rw [min_eq_right hk] at hfree ⊢
      rw [State.stripMeter, if_neg (by omega), min_eq_right (by omega)]

theorem State.foldl_anchorMeter (c k : Nat) : (List.range k).foldl State.anchorMeter (s.metered c 0) =
    s.metered c (min k (29 - (s.message.outbound.length + c))) := by
  induction k with
  | zero => rw [Nat.zero_min]; rfl
  | succ k ih =>
    have hfree := s.metered_freeEntries c (min k (29 - (s.message.outbound.length + c)))
    rw [List.range_succ, List.foldl_append, ih, List.foldl_cons, List.foldl_nil]
    rcases lt_or_ge k (29 - (s.message.outbound.length + c)) with hk | hk
    · rw [min_eq_left hk.le] at hfree ⊢
      rw [s.metered_anchorMeter (by omega), min_eq_left (by omega)]
    · rw [min_eq_right hk] at hfree ⊢
      rw [State.anchorMeter, if_neg (by omega), min_eq_right (by omega)]

/-- R162: how many blocks a meter event queues: the first ones, while three entries stay free. -/
def State.metersQueued (s : State) : Nat := min (4 + (s.outputs.anchors.length + 7) / 8) (29 - s.message.outbound.length)

theorem State.meterReports_eq : s.meterReports = s.metered (min 4 s.metersQueued) (s.metersQueued - 4) := by
  have hstrips : min 4 (29 - s.message.outbound.length) = min 4 s.metersQueued := by
    unfold State.metersQueued
    omega
  have hanchors : min ((s.outputs.anchors.length + 7) / 8) (29 - (s.message.outbound.length + min 4 s.metersQueued)) =
      s.metersQueued - 4 := by
    unfold State.metersQueued
    omega
  rw [State.meterReports, State.foldl_stripMeter, State.foldl_anchorMeter, hstrips, hanchors]

/-- R162: strip blocks come ahead of the anchor blocks. -/
theorem State.outbound_meterReports : s.meterReports.message.outbound = s.message.outbound ++
    ((List.range 4).map s.stripBlock ++ (List.range ((s.outputs.anchors.length + 7) / 8)).map s.anchorBlock).take
      s.metersQueued := by
  have hanchors : min (s.metersQueued - 4) ((s.outputs.anchors.length + 7) / 8) = s.metersQueued - 4 := by
    unfold State.metersQueued
    omega
  rw [State.meterReports_eq, List.take_append, ← List.map_take, ← List.map_take, List.take_range, List.take_range,
    List.length_map, List.length_range, hanchors, min_comm s.metersQueued]
  rfl

theorem State.strip_meterReports (n : StripNo) : s.meterReports.strip n =
    if n.val / 8 < s.metersQueued then { s.strip n with peak := 0 } else s.strip n := by
  rw [State.meterReports_eq]
  simp only [State.metered, State.strip, Fin.getElem_fin, Vector.getElem_mapIdx, reported]
  exact if_congr (by omega) rfl rfl

theorem State.anchor_meterReports {m : Nat} {a : Anchor} (h : s.outputs.anchors[m]? = some a) :
    s.meterReports.outputs.anchors[m]? = some (if 4 + m / 8 < s.metersQueued then { a with peak := 0 } else a) := by
  rw [State.meterReports_eq]
  simp only [State.metered, List.getElem?_mapIdx, h, Option.map_some, reported]
  exact congrArg some (if_congr (by omega) rfl rfl)

theorem State.anchors_length_meterReports : s.meterReports.outputs.anchors.length = s.outputs.anchors.length := by
  rw [State.meterReports_eq]
  exact List.length_mapIdx

/-- What the reports leave alone. -/
theorem State.meterReports_frame : s.meterReports = { s with
    engine.strips := s.meterReports.engine.strips
    outputs.anchors := s.meterReports.outputs.anchors
    message.outbound := s.meterReports.message.outbound } := by
  rw [State.meterReports_eq]
  rfl

end

/-- METER_EVENT at the expiry of the meter timer. -/
theorem exec_meterEvent {s : State} (hstart : s.clock.start = .passing ∨ s.clock.start = .joined)
    (hdue : s.clock.profile.meter ≤ s.reports.meterCount) : exec .meterEvent s = .next
      (if s.joined && s.reports.metersOn then { s with reports.meterCount := 0 }.meterReports
      else { s with reports.meterCount := 0 }) := by
  have hmeter : s.meterDue = true := by simp [State.meterDue, s.periodsPass_iff.mpr hstart, hdue]
  exact congrArg _ (if_pos hmeter)

/-- Settles O48: a meter event queues the strip blocks and then the anchor blocks, the first ones that find room. -/
theorem meterEventReportsAndClearsPeaks : Obligations.MeterEventReportsAndClearsPeaks := by
  intro s hstart hdue
  rw [exec_meterEvent hstart hdue]
  refine ⟨fun hoff => ?_, fun hjoined hon => ?_⟩
  · have hsilent : (s.joined && s.reports.metersOn) = false := by
      rcases hoff with hpassing | hoff
      · simp [State.joined, hpassing]
      · simp [hoff]
    rw [hsilent]
    rfl
  · have hreports : (s.joined && s.reports.metersOn) = true := by simp [State.joined, hjoined, hon]
    rw [hreports]
    refine ⟨_, rfl, State.meterReports_frame _, fun queued strips anchors hqueued hstrips hanchors => ?_⟩
    subst hqueued hstrips hanchors
    exact ⟨State.outbound_meterReports _, State.strip_meterReports _, State.anchors_length_meterReports _,
      fun m a h => State.anchor_meterReports _ h⟩

end Sys2Proof.Machine
end

section
/-! SUPPORT. What one operation leaves of one anchor (chapter 4), said once for each. -/

namespace Sys2Proof.Machine

open Sys2Proof

/-! ### The master target and ramp (R72, R73) -/

/-- R72: the master target of the states that carry the anchor's level. -/
def Anchor.upTarget (a : Anchor) : Nat := if a.mute then 0 else coef a.level

theorem Anchor.target_eq (a : Anchor) : a.target =
    if a.state = .rising ∨ a.state = .running ∨ a.state = .realignUp then a.upTarget else 0 := by
  unfold Anchor.target Anchor.upTarget
  cases a.state <;> simp

theorem Anchor.target_le (a : Anchor) : a.target ≤ 16697825 := by
  rw [Anchor.target_eq, Anchor.upTarget]
  split_ifs
  · exact Nat.zero_le _
  · exact coef_le _
  · exact Nat.zero_le _

theorem Ramp.inProgress_iff {r : Ramp} : r.inProgress = true ↔ r.step < r.length := decide_eq_true_iff

theorem Ramp.inProgress_eq_false_iff {r : Ramp} : r.inProgress = false ↔ r.length ≤ r.step := by
  rw [Ramp.inProgress, decide_eq_false_iff_not, not_lt]

/-- R48: a recomputation that moves the target starts the ramp again. -/
theorem Ramp.retarget_inProgress {r : Ramp} {target length : Nat} (hlength : 0 < length)
    (h : target ≠ r.target ∨ r.inProgress = true) : (r.retarget target length).inProgress = true := by
  by_cases e : target = r.target
  · rw [e, Ramp.retarget_eq_self]
    exact h.resolve_left (not_not_intro e)
  · rw [Ramp.retarget_of_ne length e]
    exact Ramp.inProgress_iff.mpr hlength

theorem Anchor.retarget_eq (length : Nat) (a : Anchor) :
    a.retarget length = { a with ramp := a.ramp.retarget a.target length } := rfl

/-- An anchor whose target is already what its fields give is not moved by a recomputation. -/
theorem Anchor.retarget_eq_self {a : Anchor} (length : Nat) (h : a.ramp.target = a.target) : a.retarget length = a := by
  rw [Anchor.retarget_eq, ← h, Ramp.retarget_eq_self]

/-- R73: the change to RUNNING is of the state alone. -/
theorem Anchor.settleRunning_eq (a : Anchor) : a.settleRunning = { a with
    state := if (a.state = .rising ∨ a.state = .realignUp) ∧ a.ramp.length ≤ a.ramp.step then .running else a.state } := by
  unfold Anchor.settleRunning
  simp only [Ramp.inProgress_eq_false_iff]
  split <;> rfl

/-- R73: in RISING and REALIGN UP the ramp decides. -/
theorem Anchor.settleRunning_of_up {a : Anchor} (h : a.state = .rising ∨ a.state = .realignUp) : a.settleRunning =
    { a with state := if a.ramp.step < a.ramp.length then a.state else .running } := by
  rw [Anchor.settleRunning_eq]
  by_cases hstep : a.ramp.step < a.ramp.length
  · rw [if_pos hstep, if_neg fun e => Nat.not_lt.mpr e.2 hstep]
  · rw [if_neg hstep, if_pos ⟨h, Nat.not_lt.mp hstep⟩]

/-! ### State entries (R69 to R71) -/

/-- R69, R72, R73: what entering RISING leaves. -/
theorem Anchor.enterRising_eq (age : Fin 16) (a : Anchor) : a.enterRising age = { a with
    settledAge := some age
    ramp := a.ramp.retarget a.upTarget 96
    state := if (a.ramp.retarget a.upTarget 96).step < (a.ramp.retarget a.upTarget 96).length then .rising
      else .running } := by
  rw [Anchor.enterRising, Anchor.settleRunning_of_up (.inl rfl), Anchor.retarget_eq, Anchor.target_eq, if_pos (.inl rfl)]
  rfl

/-- R71, R72, R73: what entering REALIGN UP leaves. -/
theorem Anchor.enterRealignUp_eq (a : Anchor) : a.enterRealignUp = { a with
    pendingAge := none
    ramp := a.ramp.retarget a.upTarget 96
    state := if (a.ramp.retarget a.upTarget 96).step < (a.ramp.retarget a.upTarget 96).length then .realignUp
      else .running } := by
  rw [Anchor.enterRealignUp, Anchor.settleRunning_of_up (.inr rfl), Anchor.retarget_eq, Anchor.target_eq,
    if_pos (.inr (.inr rfl))]
  rfl

/-- R71: what the switch leaves, and latches. -/
theorem Anchor.switch_eq (a : Anchor) :
    a.switch = { anchor := { a with settledAge := a.pendingAge }.enterRealignUp, events := [.realigned] } := rfl

/-- R70: the anchor in REALIGN DOWN, before the switch is judged. -/
def Anchor.goneDown (age : Fin 16) (a : Anchor) : Anchor :=
  { a with pendingAge := some age, state := .realignDown, ramp := a.ramp.retarget 0 96 }

theorem Anchor.goneDown_eq (age : Fin 16) (a : Anchor) :
    { a with pendingAge := some age, state := .realignDown }.retarget shortRamp = a.goneDown age := by
  rw [Anchor.retarget_eq, Anchor.target_eq]
  rfl

/-- R70: a master that still has a way to 0 stays in REALIGN DOWN. -/
theorem Anchor.enterRealignDown_of_progress {age : Fin 16} {a : Anchor}
    (h : a.ramp.target ≠ 0 ∨ a.ramp.step < a.ramp.length) :
    a.enterRealignDown age = { anchor := a.goneDown age, events := [] } := by
  have hprogress : (a.goneDown age).ramp.inProgress = true :=
    Ramp.retarget_inProgress (by decide) (h.imp Ne.symm Ramp.inProgress_iff.mpr)
  rw [Anchor.enterRealignDown, Anchor.goneDown_eq]
  exact if_pos hprogress

/-- R71: a master that rests at 0 takes the switch at once. -/
theorem Anchor.enterRealignDown_of_rest {age : Fin 16} {a : Anchor} (htarget : a.ramp.target = 0)
    (hstep : a.ramp.length ≤ a.ramp.step) : a.enterRealignDown age =
      { anchor := { a with pendingAge := some age, settledAge := some age, state := .realignDown }.enterRealignUp
        events := [.realigned] } := by
  have hramp : a.ramp.retarget 0 96 = a.ramp := by rw [← htarget, Ramp.retarget_eq_self]
  have hdown : a.goneDown age = { a with pendingAge := some age, state := .realignDown } := by
    rw [Anchor.goneDown, hramp]
  rw [Anchor.enterRealignDown, Anchor.goneDown_eq, hdown, if_neg (by simpa [Ramp.inProgress] using hstep), Anchor.switch_eq]

/-! ### One record (R65, R66, R68) -/

@[simp] theorem pushDelay_zero (value : Int) (delay : Vector Int 238) : (pushDelay value delay)[0] = value := by
  simp [pushDelay]

@[simp] theorem pushDelay_succ (value : Int) (delay : Vector Int 238) (d : Fin 237) :
    (pushDelay value delay)[d.val + 1] = delay[d.val] := by
  simp [pushDelay]

theorem Anchor.enterSettling_eq (a : Anchor) :
    a.enterSettling = { a with state := if a.state = .silent then .settling else a.state } := by
  unfold Anchor.enterSettling
  split <;> rfl

/-- R68: a good record continues the candidate run of its age or begins one. -/
theorem Anchor.updateCandidate_good (value : Int) (age : Fin 16) (a : Anchor) : a.updateCandidate (.good value age) =
    { a with candidateAge := some age
             candidateRun := if a.candidateAge = some age then min 48 (a.candidateRun + 1) else 1 } := by
  unfold Anchor.updateCandidate
  dsimp only
  split
  · rename_i h
    rw [← h]
    rfl
  · rfl

/-- R65, R66, R68: what a good record leaves, before a completed run is acted on. -/
theorem Anchor.recorded_good (value : Int) (age : Fin 16) (a : Anchor) : a.recorded (.good value age) = { a with
    state := if a.state = .silent then .settling else a.state
    delay := pushDelay value a.delay, lastWritten := value, badRun := 0, faulted := false, candidateAge := some age
    candidateRun := if a.candidateAge = some age then min 48 (a.candidateRun + 1) else 1 } := by
  rw [Anchor.recorded, Anchor.updateCandidate_good, Anchor.enterSettling_eq]
  rfl

/-- R65, R66, R68: what a bad record leaves. -/
theorem Anchor.recorded_bad (a : Anchor) : a.recorded .bad = { a with
    state := if a.state = .silent then .settling else a.state
    delay := pushDelay (a.lastWritten.tdiv 2) a.delay, lastWritten := a.lastWritten.tdiv 2
    badRun := min 48 (a.badRun + 1), faulted := a.faulted || decide (a.badRun = 47), candidateAge := none
    candidateRun := 0 } := by
  rw [Anchor.recorded, Anchor.enterSettling_eq]
  simp only [Anchor.write, Anchor.written, Anchor.updateBadRun, Anchor.updateCandidate, holdAt, eq_comm]

theorem Anchor.handOff_bad (a : Anchor) :
    a.handOff .bad = { anchor := a.recorded .bad, events := a.faultEvents .bad } := rfl

/-- R68: a good record short of a completed run. -/
theorem Anchor.handOff_good {value : Int} {age : Fin 16} {a : Anchor}
    (h : a.candidateAge ≠ some age ∨ a.candidateRun ≠ 47) : a.handOff (.good value age) =
      { anchor := a.recorded (.good value age), events := a.faultEvents (.good value age) } := by
  have hshort : a.completes (.good value age) = none := if_neg (by tauto)
  rw [Anchor.handOff, hshort]

/-- R68: the good record that completes a run. -/
theorem Anchor.handOff_completes {value : Int} {age : Fin 16} {a : Anchor} (hage : a.candidateAge = some age)
    (hrun : a.candidateRun = 47) : a.handOff (.good value age) =
      { anchor := ((a.recorded (.good value age)).runCompleted age).anchor
        events := a.faultEvents (.good value age) ++ ((a.recorded (.good value age)).runCompleted age).events } := by
  have hcompletes : a.completes (.good value age) = some age := if_pos ⟨hage, hrun⟩
  rw [Anchor.handOff, hcompletes]

end Sys2Proof.Machine
end

section
/-! O6: the anchor entries accepted (R63). -/

namespace Sys2Proof.Machine

open Sys2Proof

/-! ### One entry more (R63) -/

theorem acceptEntries_append (entries : List AnchorEntry) (e : AnchorEntry) :
    acceptEntries (entries ++ [e]) = acceptEntries entries ++ (acceptEntry (acceptEntries entries) e).toList := by
  have hfold : acceptEntries (entries ++ [e]) = match acceptEntry (acceptEntries entries) e with
      | some a => acceptEntries entries ++ [a]
      | none => acceptEntries entries := by
    rw [acceptEntries, List.foldl_append]
    rfl
  rw [hfold]
  cases acceptEntry (acceptEntries entries) e <;> simp

theorem acceptEntry_of_free {anchors : List Anchor} {e : AnchorEntry} {lane : LaneNo} {slot : SlotNo}
    (hlane : e.lane = lane.val) (hslot : e.slot = slot.val)
    (hfree : ∀ a ∈ anchors, a.lane ≠ lane ∧ a.slot ≠ slot) : acceptEntry anchors e =
      some (Anchor.initial lane slot (clampLevel e.level)) := by
  have hrange : e.lane < 64 ∧ e.slot < 32 := ⟨hlane ▸ lane.isLt, hslot ▸ slot.isLt⟩
  have hnone : ¬(anchors.any fun a => a.lane.val == e.lane || a.slot.val == e.slot) = true := by
    simpa [hlane, hslot, Fin.val_inj] using hfree
  rw [acceptEntry, dif_pos hrange, if_neg hnone]
  simp [hlane, hslot]

theorem acceptEntry_of_taken {anchors : List Anchor} {e : AnchorEntry}
    (h : 64 ≤ e.lane ∨ 32 ≤ e.slot ∨ ∃ a ∈ anchors, a.lane.val = e.lane ∨ a.slot.val = e.slot) :
    acceptEntry anchors e = none := by
  unfold acceptEntry
  split
  · rename_i hrange
    have htaken : ∃ a ∈ anchors, a.lane.val = e.lane ∨ a.slot.val = e.slot := by
      rcases h with h | h | h
      · omega
      · omega
      · exact h
    exact if_pos (by simpa using htaken)
  · rfl

/-- R63: an entry is ignored, or names a lane and a slot that no anchor before it holds. -/
theorem acceptEntry_cases (anchors : List Anchor) (e : AnchorEntry) : acceptEntry anchors e = none ∨
    ∃ (lane : LaneNo) (slot : SlotNo), e.lane = lane.val ∧ e.slot = slot.val ∧
      (∀ a ∈ anchors, a.lane ≠ lane ∧ a.slot ≠ slot) ∧
      acceptEntry anchors e = some (Anchor.initial lane slot (clampLevel e.level)) := by
  by_cases h : 64 ≤ e.lane ∨ 32 ≤ e.slot ∨ ∃ a ∈ anchors, a.lane.val = e.lane ∨ a.slot.val = e.slot
  · exact .inl (acceptEntry_of_taken h)
  · simp only [not_or, not_le, not_exists, not_and] at h
    obtain ⟨hlane, hslot, hfree⟩ := h
    have hfree' : ∀ a ∈ anchors, a.lane ≠ ⟨e.lane, hlane⟩ ∧ a.slot ≠ ⟨e.slot, hslot⟩ := fun a ha =>
      ⟨fun h => (hfree a ha).1 (congrArg Fin.val h), fun h => (hfree a ha).2 (congrArg Fin.val h)⟩
    exact .inr ⟨⟨e.lane, hlane⟩, ⟨e.slot, hslot⟩, rfl, rfl, hfree', acceptEntry_of_free rfl rfl hfree'⟩

/-! ### All entries -/

/-- R63: the anchor an entry stands behind: SILENT, at the entry's lane, slot and clamped level. -/
def Anchor.OfEntry (a : Anchor) (e : AnchorEntry) : Prop :=
  e.lane = a.lane.val ∧ e.slot = a.slot.val ∧ a = Anchor.initial a.lane a.slot (clampLevel e.level)

/-- R63: what the anchors of the entries are, whatever the entries hold. -/
structure AcceptedFrom (entries : List AnchorEntry) (anchors : List Anchor) : Prop where
  length : anchors.length ≤ entries.length
  lanes : (anchors.map Anchor.lane).Nodup
  slots : (anchors.map Anchor.slot).Nodup
  entry : ∀ a ∈ anchors, ∃ e ∈ entries, a.OfEntry e

/-- A number that no element before it has joins distinct ones. -/
theorem nodup_map_append {α β : Type} {f : α → β} {l : List α} {x : α} (h : (l.map f).Nodup)
    (hx : ∀ a ∈ l, f a ≠ f x) : ((l ++ [x]).map f).Nodup := by
  rw [List.map_append, List.nodup_append]
  refine ⟨h, List.nodup_singleton _, ?_⟩
  simpa using hx

theorem acceptEntries_acceptedFrom (entries : List AnchorEntry) : AcceptedFrom entries (acceptEntries entries) := by
  induction entries using List.reverseRecOn with
  | nil => exact ⟨Nat.zero_le _, List.nodup_nil, List.nodup_nil, fun _ h => absurd h List.not_mem_nil⟩
  | append_singleton entries e ih =>
    rw [acceptEntries_append]
    have hbefore : ∀ a ∈ acceptEntries entries, ∃ e' ∈ entries ++ [e], a.OfEntry e' := fun a ha =>
      let ⟨e', he', h⟩ := ih.entry a ha
      ⟨e', List.mem_append_left _ he', h⟩
    rcases acceptEntry_cases (acceptEntries entries) e with h | ⟨lane, slot, hlane, hslot, hfree, h⟩
    · rw [h, Option.toList_none, List.append_nil]
      exact { ih with length := ih.length.trans (by simp), entry := hbefore }
    · rw [h, Option.toList_some]
      refine ⟨?_, nodup_map_append ih.lanes fun a ha => (hfree a ha).1,
        nodup_map_append ih.slots fun a ha => (hfree a ha).2, fun a ha => ?_⟩
      · rw [List.length_append, List.length_append]
        exact Nat.add_le_add_right ih.length 1
      · rcases List.mem_append.mp ha with ha | ha
        · exact hbefore a ha
        · rw [List.mem_singleton.mp ha]
          exact ⟨e, by simp, hlane, hslot, rfl⟩

/-- There are 32 output slots. -/
theorem length_le_of_slots_nodup {anchors : List Anchor} (h : (anchors.map Anchor.slot).Nodup) : anchors.length ≤ 32 := by
  simpa using h.length_le_card

/-- Settles O6, an entry at a time in list order. -/
theorem acceptedAnchorsHaveLanesAndSlotsOfTheirOwn : Obligations.AcceptedAnchorsHaveLanesAndSlotsOfTheirOwn := by
  refine ⟨rfl, fun entries => ?_⟩
  have h := acceptEntries_acceptedFrom entries
  refine ⟨fun e lane slot hlane hslot hfree => ?_, fun e htaken => ?_,
    le_min (length_le_of_slots_nodup h.slots) h.length, h.lanes, h.slots, fun a ha => ?_⟩
  · rw [acceptEntries_append, acceptEntry_of_free hlane hslot hfree]
    rfl
  · rw [acceptEntries_append, acceptEntry_of_taken htaken]
    exact List.append_nil _
  · obtain ⟨e, he, hlane, hslot, hinitial⟩ := h.entry a ha
    have hlevel : a.level = clampLevel e.level := congrArg Anchor.level hinitial
    have hrange := clampLevel_range e.level
    rw [← hlevel] at hinitial hrange
    exact ⟨hinitial, hrange.1, hrange.2, e, he, hlane, hslot, hlevel⟩

end Sys2Proof.Machine
end

section
/-! O24 and O25: the records one JOINED emission hands to an anchor. -/

namespace Sys2Proof.Machine

open Sys2Proof

/-! ### The record of a lane (R19) -/

@[simp] theorem State.handOffOf_begun (s : State) (lane : LaneNo) : s.begun.handOffOf lane = s.handOffOf lane := by
  simp [State.handOffOf]

theorem State.handOffOf_bad {s : State} {lane : LaneNo} (h : ∀ e ∈ s.port.due, e.lanes[lane] = .orphan) :
    s.handOffOf lane = .bad := by
  unfold State.handOffOf
  cases hdue : s.port.due with
  | none => rfl
  | some e => simp only [h e hdue]

theorem State.handOffOf_good {s : State} {lane : LaneNo} {e : HopEntry} {age : Fin 16} {value : Int}
    (hdue : s.port.due = some e) (hlane : e.lanes[lane] = .live age value) : s.handOffOf lane = .good value age := by
  simp only [State.handOffOf, hdue, hlane]

/-! ### The emission that hands a record over (R18, R19) -/

theorem State.anchorIs_eq {s : State} {m : AnchorNo} {a : Anchor} (h : s.outputs.anchors[m.val]? = some a)
    (p : Anchor → Bool) : s.anchorIs m p = p a := by
  simp only [State.anchorIs, h]

section
variable {s : State} (hj : s.clock.start = .joined)
include hj

/-- What the emission of one JOINED period leaves of an anchor and of its vector. -/
theorem State.begun_emit_anchor {m : AnchorNo} {a : Anchor} (h : s.outputs.anchors[m.val]? = some a) :
    s.begun.emit.outputs.anchors[m.val]? = some (a.handOff (s.handOffOf a.lane)).anchor ∧
    s.begun.emit.reports.vectors[anchorSource m] =
      s.reports.vectors[anchorSource m].latchAll (a.handOff (s.handOffOf a.lane)).events := by
  have hemit := State.emit_anchor (s := s.begun) (by rw [s.begun_clock_start, hj]) (a := a) (by rw [s.begun_outputs, h])
  rwa [State.handOffOf_begun, s.begun_reports] at hemit

theorem State.emissionOpen_of_joined (ht : s.port.transmit = none) : s.emissionOpen = true := by
  simp [State.emissionOpen, s.periodsPass_iff.mpr (.inr hj), ht]

/-- R66: FAULT_BEGUN at the emission that hands over the 48th bad period. -/
theorem exec_faultBegun (ht : s.port.transmit = none) {m : AnchorNo} {a : Anchor}
    (h : s.outputs.anchors[m.val]? = some a) (hrecord : s.handOffOf a.lane = .bad) (hrun : a.badRun = 47)
    (hfaulted : a.faulted = false) : exec (.faultBegun m) s = .next s.begun.emit := by
  have hdue : s.faultDue m = true := by
    simp [State.faultDue, State.emissionOpen_of_joined hj ht, State.joined_of_start hj, State.anchorIs_eq h, hrecord,
      hrun, hfaulted]
  exact congrArg Host.Outcome.next (if_pos hdue)

/-- R68: RUN_COMPLETED at the emission that hands over the record that completes a candidate run. -/
theorem exec_runCompleted (ht : s.port.transmit = none) {m : AnchorNo} {a : Anchor}
    (h : s.outputs.anchors[m.val]? = some a) {age : Fin 16} (hcompletes : a.completes (s.handOffOf a.lane) = some age) :
    exec (.runCompleted m) s = .next s.begun.emit := by
  have hdue : s.runDue m = true := by
    simp [State.runDue, State.emissionOpen_of_joined hj ht, State.joined_of_start hj, State.anchorIs_eq h, hcompletes]
  exact congrArg Host.Outcome.next (if_pos hdue)

end

/-! ### Bad periods (R65, R66) -/

/-- R65: the last written value after `n` bad periods. -/
theorem Anchor.lastWritten_bad_periods (n : Nat) (a : Anchor) :
    ((fun b : Anchor => (b.handOff .bad).anchor)^[n] a).lastWritten = (fun x : Int => x.tdiv 2)^[n] a.lastWritten := by
  have hstep : Function.Semiconj Anchor.lastWritten (fun b => (b.handOff .bad).anchor) fun x => x.tdiv 2 := fun b => by
    show (b.handOff .bad).anchor.lastWritten = _
    rw [Anchor.handOff_bad, Anchor.recorded_bad]
  exact hstep.iterate_right n a

/-- Halving toward zero takes a value below `2 ^ n` to 0 in `n` steps. -/
theorem iterate_tdiv_two_eq_zero (n : Nat) {x : Int} (h : x.natAbs < 2 ^ n) : (fun x : Int => x.tdiv 2)^[n] x = 0 := by
  induction n generalizing x with
  | zero =>
    rw [Function.iterate_zero_apply]
    omega
  | succ n ih =>
    rw [Function.iterate_succ_apply]
    refine ih ?_
    rw [Int.natAbs_tdiv]
    exact Nat.div_lt_of_lt_mul (by rwa [Nat.pow_succ'] at h)

/-- Settles O24: the 48th bad period, then any good record short of a completed run, any bad record, and 32 bad periods. -/
theorem badPeriodsConcealAndFault : Obligations.BadPeriodsConcealAndFault := by
  refine ⟨fun m a s hj ht ha horphan hrun hfaulted => ?_, fun a b age value events hshort hstep => ?_,
    fun a b events hstep => ?_, fun a hlow hhigh => ?_⟩
  · have hrecord := State.handOffOf_bad horphan
    have hfault := exec_faultBegun hj ht ha hrecord hrun hfaulted
    obtain ⟨hanchor, hvector⟩ := State.begun_emit_anchor hj ha
    have hevents : a.faultEvents .bad = [.faultBegun] := if_pos ⟨hrun, hfaulted⟩
    rw [hrecord, Anchor.handOff_bad] at hanchor hvector
    rw [hevents] at hvector
    rw [Anchor.recorded_bad] at hanchor
    refine ⟨hfault.trans (exec_frameEmission (.inr hj) ht).symm, _, _, hfault, hanchor, ?_, ?_, rfl, pushDelay_zero ..,
      pushDelay_succ _ _, rfl, rfl, hvector⟩
    · simp [hrun]
    · simp [hrun]
  · rw [Anchor.handOff_good hshort, Anchor.recorded_good] at hstep
    cases hstep
    exact ⟨rfl, pushDelay_zero .., pushDelay_succ _ _, rfl⟩
  · rw [Anchor.handOff_bad, Anchor.recorded_bad] at hstep
    cases hstep
    exact ⟨rfl, pushDelay_zero .., pushDelay_succ _ _, rfl⟩
  · rw [Anchor.lastWritten_bad_periods]
    exact iterate_tdiv_two_eq_zero 32 (by omega)

/-! ### A completed run by the output state (R69 to R71) -/

section
variable {age : Fin 16} {a : Anchor}

theorem Anchor.runCompleted_settling (h : a.state = .settling) :
    a.runCompleted age = { anchor := a.enterRising age, events := [] } := by
  rw [Anchor.runCompleted, h]

/-- R70: the settled age's own run changes nothing. -/
theorem Anchor.runCompleted_settled (h : a.state = .rising ∨ a.state = .running ∨ a.state = .realignUp)
    (hsettled : a.settledAge = some age) : a.runCompleted age = { anchor := a, events := [] } := by
  rcases h with h | h | h <;> simp only [Anchor.runCompleted, h, if_pos hsettled]

theorem Anchor.runCompleted_realigns (h : a.state = .rising ∨ a.state = .running ∨ a.state = .realignUp)
    (hsettled : a.settledAge ≠ some age) : a.runCompleted age = a.enterRealignDown age := by
  rcases h with h | h | h <;> simp only [Anchor.runCompleted, h, if_neg hsettled]

/-- R71: the pending age's own run changes nothing. -/
theorem Anchor.runCompleted_pending (h : a.state = .realignDown) (hpending : a.pendingAge = some age) :
    a.runCompleted age = { anchor := a, events := [] } := by
  simp only [Anchor.runCompleted, h, if_pos hpending]

theorem Anchor.runCompleted_abandons (h : a.state = .realignDown) (hpending : a.pendingAge ≠ some age)
    (hsettled : a.settledAge = some age) : a.runCompleted age = { anchor := a.enterRealignUp, events := [] } := by
  simp only [Anchor.runCompleted, h, if_neg hpending, if_pos hsettled]

theorem Anchor.runCompleted_repends (h : a.state = .realignDown) (hpending : a.pendingAge ≠ some age)
    (hsettled : a.settledAge ≠ some age) :
    a.runCompleted age = { anchor := { a with pendingAge := some age }, events := [] } := by
  simp only [Anchor.runCompleted, h, if_neg hpending, if_neg hsettled]

end

/-- The part of an anchor that a change of output state leaves as it was (R69 to R73). -/
structure Anchor.SameRecord (a b : Anchor) : Prop where
  lane : b.lane = a.lane
  slot : b.slot = a.slot
  profileLevel : b.profileLevel = a.profileLevel
  delay : b.delay = a.delay
  lastWritten : b.lastWritten = a.lastWritten
  badRun : b.badRun = a.badRun
  faulted : b.faulted = a.faulted
  candidateAge : b.candidateAge = a.candidateAge
  candidateRun : b.candidateRun = a.candidateRun
  level : b.level = a.level
  mute : b.mute = a.mute
  peak : b.peak = a.peak
  applied : b.ramp.applied = a.ramp.applied

theorem Anchor.sameRecord_refl (a : Anchor) : a.SameRecord a := by constructor <;> rfl

theorem Anchor.enterRising_sameRecord (age : Fin 16) (a : Anchor) : a.SameRecord (a.enterRising age) := by
  rw [Anchor.enterRising_eq]
  exact { a.sameRecord_refl with applied := Ramp.retarget_applied .. }

theorem Anchor.enterRealignUp_sameRecord (a : Anchor) : a.SameRecord a.enterRealignUp := by
  rw [Anchor.enterRealignUp_eq]
  exact { a.sameRecord_refl with applied := Ramp.retarget_applied .. }

theorem Anchor.enterRealignDown_sameRecord (age : Fin 16) (a : Anchor) :
    a.SameRecord (a.enterRealignDown age).anchor := by
  by_cases h : a.ramp.target ≠ 0 ∨ a.ramp.step < a.ramp.length
  · rw [Anchor.enterRealignDown_of_progress h]
    exact { a.sameRecord_refl with applied := Ramp.retarget_applied .. }
  · rw [not_or, not_not, not_lt] at h
    rw [Anchor.enterRealignDown_of_rest h.1 h.2]
    exact { Anchor.enterRealignUp_sameRecord _ with }

theorem Anchor.runCompleted_sameRecord (age : Fin 16) (a : Anchor) : a.SameRecord (a.runCompleted age).anchor := by
  unfold Anchor.runCompleted
  split
  · exact a.sameRecord_refl
  · exact a.enterRising_sameRecord age
  iterate 3
    split
    · exact a.sameRecord_refl
    · exact a.enterRealignDown_sameRecord age
  · split
    · exact a.sameRecord_refl
    · split
      · exact a.enterRealignUp_sameRecord
      · exact { a.sameRecord_refl with }

/-- R64, R68: what the completing record hands to the output state. -/
theorem Anchor.recorded_completing {value : Int} {age : Fin 16} {a r : Anchor} (hage : a.candidateAge = some age)
    (hrun : a.candidateRun = 47) (hr : r = a.recorded (.good value age)) :
    r.candidateAge = some age ∧ r.candidateRun = 48 ∧ r.settledAge = a.settledAge ∧ r.pendingAge = a.pendingAge ∧
      r.ramp = a.ramp ∧ r.upTarget = (if a.mute then 0 else coef a.level) ∧
      r.state = if a.state = .silent then .settling else a.state := by
  rw [Anchor.recorded_good, if_pos hage, hrun] at hr
  subst hr
  exact ⟨rfl, rfl, rfl, rfl, rfl, rfl, rfl⟩

/-- Settles O25: the record is written as any good one is, and the completed run acts by the output state it meets. -/
theorem runCompletedActsByTheOutputState : Obligations.RunCompletedActsByTheOutputState := by
  intro m a e age value s hj ht ha hdue hlane hage hrun
  have hrecord := State.handOffOf_good hdue hlane
  have hcommand := exec_runCompleted hj ht ha (age := age) (by rw [hrecord]; exact if_pos ⟨hage, hrun⟩)
  obtain ⟨hanchor, hvector⟩ := State.begun_emit_anchor hj ha
  rw [hrecord, Anchor.handOff_completes hage hrun] at hanchor hvector
  have hwritten := Anchor.recorded_good value age a
  obtain ⟨r, hr⟩ : ∃ r, r = a.recorded (.good value age) := ⟨_, rfl⟩
  rw [← hr] at hanchor hvector hwritten
  have hlatched (e : NoticeEvent) (he : e ∈ a.faultEvents (.good value age) ++ (r.runCompleted age).events) :
      s.begun.emit.reports.vectors[anchorSource m].events.getLsbD e.bit = true := by
    rw [hvector]
    exact EventVector.latchAll_mem _ _ e he
  obtain ⟨hcandidate, hcount, hsettled, hpending, hramp, hup, hstate⟩ := Anchor.recorded_completing hage hrun hr
  have hsame := r.runCompleted_sameRecord age
  have hdelay : (r.runCompleted age).anchor.delay = pushDelay value a.delay := by rw [hsame.delay, hwritten]
  refine ⟨hcommand.trans (exec_frameEmission (.inr hj) ht).symm, _, _, hcommand, hanchor,
    hsame.candidateAge.trans hcandidate, hsame.candidateRun.trans hcount, ?_, ?_, ?_, ?_, ?_, ?_, ?_, ?_, ?_,
    fun hfaulted => hlatched .faultEnded (List.mem_append_left _ ?_), fun up hup' => ?_⟩
  · rw [hsame.lastWritten, hwritten]
  · rw [hsame.badRun, hwritten]
  · rw [hsame.faulted, hwritten]
  · rw [hsame.level, hwritten]
  · rw [hsame.mute, hwritten]
  · rw [hsame.peak, hwritten]
  · rw [hsame.applied, hramp]
  · simp only [hdelay, pushDelay_zero]
  · simp only [hdelay, pushDelay_succ, implies_true]
  · simp [Anchor.faultEvents, hfaulted]
  rw [← hup'] at hup
  rw [← hsettled, ← hpending, ← hramp, ← hup]
  refine ⟨fun h => ?_, fun h => ?_, fun h => ?_⟩
  · have hsettling : r.state = .settling := by rcases h with h | h <;> simp [hstate, h]
    rw [Anchor.runCompleted_settling hsettling, Anchor.enterRising_eq]
    exact ⟨rfl, rfl, rfl, rfl⟩
  · have hstays : r.state = a.state := by rcases h with h | h | h <;> simp [hstate, h]
    rw [← hstays] at h ⊢
    refine ⟨fun hown => ?_, fun hother hprogress => ?_, fun hother htarget hrest => ?_⟩
    · rw [Anchor.runCompleted_settled h hown]
      exact ⟨rfl, rfl, rfl⟩
    · rw [Anchor.runCompleted_realigns h hother, Anchor.enterRealignDown_of_progress hprogress]
      exact ⟨rfl, rfl, rfl, rfl⟩
    · rw [Anchor.runCompleted_realigns h hother, Anchor.enterRealignDown_of_rest htarget hrest,
        Anchor.enterRealignUp_eq] at hlatched ⊢
      exact ⟨rfl, rfl, rfl, rfl, hlatched .realigned (List.mem_append_right _ (List.mem_singleton_self _))⟩
  · have hdown : r.state = .realignDown := by simp [hstate, h]
    rw [h, ← hdown]
    refine ⟨fun hown => ?_, fun hnew hown => ?_, fun hnew hother => ?_⟩
    · rw [Anchor.runCompleted_pending hdown hown]
      exact ⟨rfl, rfl, rfl, rfl⟩
    · rw [Anchor.runCompleted_abandons hdown hnew hown, Anchor.enterRealignUp_eq]
      exact ⟨hown, rfl, rfl, rfl⟩
    · rw [Anchor.runCompleted_repends hdown hnew hother]
      exact ⟨rfl, rfl, rfl, rfl⟩

end Sys2Proof.Machine
end

section
/-! O26: the output processing of one period (R75 to R77). -/

namespace Sys2Proof.Machine

open Sys2Proof

/-! ### The step of a master ramp (R73) -/

theorem Ramp.advance_of_progress {r : Ramp} (h : r.step < r.length) : r.advance = r.stepOnce := by
  rw [Ramp.advance_eq, if_pos h]

theorem Ramp.advance_of_rest {r : Ramp} (h : r.length ≤ r.step) : r.advance = r := by
  rw [Ramp.advance_eq, if_neg (Nat.not_lt.mpr h)]

theorem Anchor.rampCompletes_iff {a : Anchor} : a.rampCompletes = true ↔ a.ramp.step + 1 = a.ramp.length := by
  have hcompletes : a.rampCompletes = true ↔
      a.ramp.step < a.ramp.length ∧ a.ramp.advance.length ≤ a.ramp.advance.step := by
    rw [Anchor.rampCompletes, Bool.and_eq_true, Bool.not_eq_true', Ramp.inProgress_iff, Ramp.inProgress_eq_false_iff]
    rfl
  rw [hcompletes]
  by_cases h : a.ramp.step < a.ramp.length
  · rw [Ramp.advance_of_progress h]
    show _ ∧ a.ramp.length ≤ a.ramp.step + 1 ↔ _
    omega
  · omega

/-! ### One anchor (R75, R76) -/

/-- R75 items 1 and 4: the anchor after its ramp's step and with its peak raised, before a completed ramp is acted on. -/
def Anchor.processed (latency : Nat) (a : Anchor) : Anchor :=
  { a with ramp := a.ramp.advance, peak := max a.peak (a.output latency).natAbs }

section
variable (latency : Nat) {a : Anchor}

theorem Anchor.process_of_not_completes (h : a.ramp.step + 1 ≠ a.ramp.length) :
    a.process latency = { anchor := a.processed latency, events := a.clipEvents latency } :=
  if_neg (mt Anchor.rampCompletes_iff.mp h)

theorem Anchor.process_of_completes (h : a.ramp.step + 1 = a.ramp.length) : a.process latency =
    { anchor := (a.processed latency).afterStep.anchor
      events := a.clipEvents latency ++ (a.processed latency).afterStep.events } :=
  if_pos (Anchor.rampCompletes_iff.mpr h)

omit latency in
/-- R73: a completed ramp ends RISING and REALIGN UP. -/
theorem Anchor.afterStep_up (h : a.state = .rising ∨ a.state = .realignUp) :
    a.afterStep = { anchor := { a with state := .running }, events := [] } := by
  rcases h with h | h <;> rw [Anchor.afterStep, h]

omit latency in
/-- R71: a completed ramp takes the switch in REALIGN DOWN. -/
theorem Anchor.afterStep_down (h : a.state = .realignDown) : a.afterStep = a.switch := by
  rw [Anchor.afterStep, h]

theorem Anchor.afterStep_sameRecord (a : Anchor) : a.SameRecord a.afterStep.anchor := by
  unfold Anchor.afterStep
  split
  case h_3 => exact { Anchor.enterRealignUp_sameRecord _ with }
  case h_1 | h_2 => exact { a.sameRecord_refl with }
  all_goals exact a.sameRecord_refl

theorem Anchor.process_sameRecord (a : Anchor) : (a.processed latency).SameRecord (a.process latency).anchor := by
  by_cases h : a.ramp.step + 1 = a.ramp.length
  · rw [Anchor.process_of_completes latency h]
    exact Anchor.afterStep_sameRecord _
  · rw [Anchor.process_of_not_completes latency h]
    exact Anchor.sameRecord_refl _

/-- R75: CLIP is latched ahead of what a completed ramp latches. -/
theorem Anchor.mem_process_events_of_clip {e : NoticeEvent} (h : e ∈ a.clipEvents latency) :
    e ∈ (a.process latency).events := by
  by_cases hcompletes : a.ramp.step + 1 = a.ramp.length
  · rw [Anchor.process_of_completes latency hcompletes]
    exact List.mem_append_left _ h
  · rwa [Anchor.process_of_not_completes latency hcompletes]

/-- R67, R75 item 2: the delayed value. -/
theorem Anchor.delayed_eq (a : Anchor) : a.delayed latency = match a.settledAge with
    | none => 0
    | some age => a.delay.toList.getD (latency - 1 - 2 * (age.val + 1)) 0 := by
  unfold Anchor.delayed Anchor.delayDepth
  cases a.settledAge <;> rfl

/-- R55, R75 item 3: the product of the delayed value and the master after its step, rounded. -/
theorem Anchor.stepped_scaled_eq (a : Anchor) :
    a.stepped.scaled latency = (a.delayed latency * a.ramp.advance.applied + 2097152) / 4194304 := rfl

theorem Anchor.output_eq (a : Anchor) :
    a.output latency = max (-8388608) (min 8388607 (a.stepped.scaled latency)) := rfl

/-- R75 item 3: the clamp acts outside the range of a sample. -/
theorem Anchor.clip_mem_clipEvents (h : a.stepped.scaled latency < -8388608 ∨ 8388607 < a.stepped.scaled latency) :
    NoticeEvent.clip ∈ a.clipEvents latency := by
  have hclamps : a.output latency ≠ a.stepped.scaled latency := by
    rw [Anchor.output_eq]
    omega
  rw [Anchor.clipEvents, if_neg hclamps]
  exact List.mem_singleton_self _

end

/-! ### The slots (R77) -/

/-- An anchor is the one found at its slot where slots are distinct. -/
theorem find_slot {anchors : List Anchor} (hslots : (anchors.map Anchor.slot).Nodup) {a : Anchor} (ha : a ∈ anchors) :
    (anchors.find? fun x => x.slot == a.slot) = some a := by
  induction anchors with
  | nil => exact absurd ha List.not_mem_nil
  | cons x anchors ih =>
    rw [List.map_cons, List.nodup_cons] at hslots
    rcases List.mem_cons.mp ha with rfl | ha
    · exact List.find?_cons_of_pos (by simp)
    · have hne : x.slot ≠ a.slot := fun e => hslots.1 (e ▸ List.mem_map_of_mem ha)
      rw [List.find?_cons_of_neg (by simpa using hne)]
      exact ih hslots.2 ha

section
variable {s : State}

theorem State.slotSamples_anchor (hslots : (s.outputs.anchors.map Anchor.slot).Nodup) {a : Anchor}
    (ha : a ∈ s.outputs.anchors) : s.slotSamples[a.slot] = a.output s.clock.profile.latency := by
  simp [State.slotSamples, find_slot hslots ha]

theorem State.slotSamples_free {slot : SlotNo} (h : ∀ a ∈ s.outputs.anchors, a.slot ≠ slot) :
    s.slotSamples[slot] = 0 := by
  have hfind : (s.outputs.anchors.find? fun a => a.slot == slot) = none := by simpa using h
  simp [State.slotSamples, hfind]

/-! ### One period (R75) -/

/-- What an output processing leaves alone. -/
theorem State.processOutputs_frame (s : State) : s.processOutputs = { s with
    outputs := s.processOutputs.outputs, clock.taken.output := true
    reports.vectors := s.processOutputs.reports.vectors } := rfl

theorem State.processOutputs_slots (s : State) : s.processOutputs.outputs.slots = s.slotSamples := rfl

theorem State.processOutputs_anchors (s : State) : s.processOutputs.outputs.anchors =
    s.outputs.anchors.map fun a => (a.process s.clock.profile.latency).anchor := List.map_map

/-- What an output processing leaves of an anchor and of its vector. -/
theorem State.processOutputs_anchor {m : AnchorNo} {a : Anchor} (h : s.outputs.anchors[m.val]? = some a) :
    s.processOutputs.outputs.anchors[m.val]? = some (a.process s.clock.profile.latency).anchor ∧
    s.processOutputs.reports.vectors[anchorSource m] =
      s.reports.vectors[anchorSource m].latchAll (a.process s.clock.profile.latency).events := by
  constructor
  · rw [State.processOutputs_anchors, List.getElem?_map, h]
    rfl
  · exact State.vector_stepAnchors_anchor _ (by rw [List.getElem?_map, h]; rfl)

theorem State.vector_processOutputs_other {src : SourceNo} (h : src.val < 32 ∨ src.val = 64) :
    s.processOutputs.reports.vectors[src] = s.reports.vectors[src] :=
  (State.vector_stepAnchors ..).trans (if_neg (by omega))

section
variable (hopen : s.outputOpen = true)
include hopen

/-- OUTPUT_PROCESSING in a period that has had none. -/
theorem exec_outputProcessing : exec .outputProcessing s = .next s.processOutputs :=
  congrArg Host.Outcome.next (if_pos hopen)

/-- R73: ENTER_RUNNING at the output processing whose step completes the ramp of a rising master. -/
theorem exec_enterRunning {m : AnchorNo} {a : Anchor} (h : s.outputs.anchors[m.val]? = some a)
    (hstate : a.state = .rising ∨ a.state = .realignUp) (hstep : a.ramp.step + 1 = a.ramp.length) :
    exec (.enterRunning m) s = .next s.processOutputs := by
  refine congrArg Host.Outcome.next (if_pos ?_)
  rw [State.anchorIs_eq h, hopen, Anchor.rampCompletes_iff.mpr hstep]
  simpa using hstate

/-- R71: REALIGN_SWITCH at the output processing whose step completes the ramp of REALIGN DOWN. -/
theorem exec_realignSwitch {m : AnchorNo} {a : Anchor} (h : s.outputs.anchors[m.val]? = some a)
    (hstate : a.state = .realignDown) (hstep : a.ramp.step + 1 = a.ramp.length) :
    exec (.realignSwitch m) s = .next s.processOutputs := by
  refine congrArg Host.Outcome.next (if_pos ?_)
  rw [State.anchorIs_eq h, hopen, Anchor.rampCompletes_iff.mpr hstep]
  simpa using hstate

end

end

/-- Settles O26: the sample by its slot, each anchor by its ramp's step, and a completing step by the output state. -/
theorem outputSampleIsDelayedScaledAndClamped : Obligations.OutputSampleIsDelayedScaledAndClamped := by
  intro s hstart htaken hslots
  have hopen : s.outputOpen = true := by simp [State.outputOpen, s.periodsPass_iff.mpr hstart, htaken]
  refine ⟨_, exec_outputProcessing hopen, s.processOutputs_frame, ?_, fun slot hfree => State.slotSamples_free hfree,
    fun src hsrc => State.vector_processOutputs_other hsrc, fun m a ha => ?_⟩
  · rw [State.processOutputs_anchors, List.length_map]
  obtain ⟨hanchor, hvector⟩ := State.processOutputs_anchor ha
  have hlatched (e : NoticeEvent) (he : e ∈ (a.process s.clock.profile.latency).events) :
      s.processOutputs.reports.vectors[anchorSource m].events.getLsbD e.bit = true := by
    rw [hvector]
    exact EventVector.latchAll_mem _ _ e he
  have hsample : s.processOutputs.outputs.slots[a.slot] = a.output s.clock.profile.latency :=
    State.slotSamples_anchor hslots (List.mem_of_getElem? ha)
  have hsame := Anchor.process_sameRecord s.clock.profile.latency a
  refine ⟨_, hanchor, hsame.lane, hsame.slot, hsame.delay, hsame.lastWritten, hsame.level, hsame.mute, hsame.badRun,
    hsame.faulted, hsame.candidateAge, hsame.candidateRun, ?_, fun delayed exact hdelayed hexact => ?_, fun hrest => ?_,
    fun hshort => ?_, fun hlast => ⟨fun hup => ?_, fun hdown => ?_⟩⟩
  · rw [hsame.applied, Anchor.processed, Ramp.advance_eq, apply_ite Ramp.applied]
  · have hscaled : exact = a.stepped.scaled s.clock.profile.latency := by
      rw [hexact, hdelayed, hsame.applied, Anchor.stepped_scaled_eq, Anchor.delayed_eq]
      rfl
    rw [hsample, hscaled]
    exact ⟨Anchor.output_eq .., hsame.peak, fun hclip =>
      hlatched .clip (Anchor.mem_process_events_of_clip _ (Anchor.clip_mem_clipEvents _ hclip))⟩
  · rw [Anchor.process_of_not_completes _ (by omega), Anchor.processed, Ramp.advance_of_rest hrest]
    exact ⟨rfl, rfl, rfl, rfl⟩
  · rw [Anchor.process_of_not_completes _ (by omega), Anchor.processed, Ramp.advance_of_progress (by omega)]
    exact ⟨rfl, rfl, rfl, rfl⟩
  · rw [Anchor.process_of_completes _ hlast, Anchor.afterStep_up (a := a.processed _) hup, Anchor.processed,
      Ramp.advance_of_progress (by omega)]
    exact ⟨exec_enterRunning hopen ha hup hlast, rfl, rfl, rfl⟩
  · rw [Anchor.process_of_completes _ hlast, Anchor.afterStep_down (a := a.processed _) hdown, Anchor.switch_eq,
      Anchor.enterRealignUp_eq, Anchor.processed, Ramp.advance_of_progress (by omega)] at hlatched ⊢
    exact ⟨exec_realignSwitch hopen ha hdown hlast, rfl, rfl, rfl, rfl,
      hlatched .realigned (List.mem_append_right _ (List.mem_singleton_self _))⟩

end Sys2Proof.Machine
end

section
/-! O27: OUTPUT SET (R72 to R74). -/

namespace Sys2Proof.Machine

open Sys2Proof

/-! ### One anchor (R72 to R74) -/

/-- R74: the master level after an OUTPUT SET. -/
def Anchor.levelAfter (f : OutputSetFields) (a : Anchor) : Int :=
  if maskBit f.mask 0 then clampLevel f.level.toInt else a.level

/-- R74: the operator mute after an OUTPUT SET. -/
def Anchor.muteAfter (f : OutputSetFields) (a : Anchor) : Bool := if maskBit f.mask 1 then yes f.mute else a.mute

/-- R74: the anchor with its fields taken, before its target is recomputed. -/
def Anchor.fieldsTaken (f : OutputSetFields) (a : Anchor) : Anchor :=
  { a with level := a.levelAfter f, mute := a.muteAfter f }

section
variable {f : OutputSetFields} {a : Anchor}

theorem Anchor.outputSet_of_same (hlevel : a.levelAfter f = a.level) (hmute : a.muteAfter f = a.mute) :
    a.outputSet f = a := by
  show (if a.muteAfter f ≠ a.mute then _ else if a.levelAfter f ≠ a.level then _ else a) = a
  rw [if_neg (not_not_intro hmute), if_neg (not_not_intro hlevel)]

/-- R72: one recomputation, with the mute's ramp length where the mute changed. -/
theorem Anchor.outputSet_of_changed (h : a.levelAfter f ≠ a.level ∨ a.muteAfter f ≠ a.mute) : a.outputSet f =
    ((a.fieldsTaken f).retarget (if a.muteAfter f = a.mute then 240 else 96)).settleRunning := by
  show (if a.muteAfter f ≠ a.mute then _ else if a.levelAfter f ≠ a.level then _ else a) = _
  by_cases hmute : a.muteAfter f = a.mute
  · rw [if_neg (not_not_intro hmute), if_pos (h.resolve_right (not_not_intro hmute)), if_pos hmute]
    rfl
  · rw [if_pos hmute, if_neg hmute]
    rfl

end

/-- R72: the master target by the mute and the output state together. -/
theorem Anchor.target_eq_coef (a : Anchor) : a.target =
    if a.mute = false ∧ (a.state = .rising ∨ a.state = .running ∨ a.state = .realignUp) then coef a.level else 0 := by
  rw [Anchor.target_eq, Anchor.upTarget]
  cases a.mute <;> simp

/-! ### The anchors named (R74) -/

/-- R74: whether an OUTPUT SET names an anchor. -/
abbrev Anchor.NamedBy (f : OutputSetFields) (a : Anchor) : Prop := f.lane = 255#8 ∨ a.lane.val = f.lane.toNat

/-- R74: an anchor after an OUTPUT SET that may name it. -/
def Anchor.outputSetIfNamed (f : OutputSetFields) (a : Anchor) : Anchor := if a.NamedBy f then a.outputSet f else a

section
variable {source : Member} {f : OutputSetFields} {s : State}

theorem State.actOutputSet_malformed (hlane : 64 ≤ f.lane.toNat) (hne : f.lane ≠ 255#8) :
    s.actOutputSet source f = s.refuse source kindOutputSet f.lane .malformed := by
  rw [State.actOutputSet, if_neg hne, laneOf_eq_none hlane]

theorem State.anchorOf_isSome (lane : LaneNo) (s : State) :
    (s.anchorOf lane).isSome = true ↔ ∃ a ∈ s.outputs.anchors, a.lane = lane := by
  simp [State.anchorOf]

theorem State.actOutputSet_notReady (hlane : f.lane.toNat < 64)
    (hnone : ∀ a ∈ s.outputs.anchors, a.lane.val ≠ f.lane.toNat) :
    s.actOutputSet source f = s.refuse source kindOutputSet f.lane .notReady := by
  have hne : f.lane ≠ 255#8 := by bv_omega
  have hfree : ¬(s.anchorOf ⟨f.lane.toNat, hlane⟩).isSome = true := fun h =>
    let ⟨a, ha, e⟩ := (s.anchorOf_isSome _).mp h
    hnone a ha (congrArg Fin.val e)
  rw [State.actOutputSet, if_neg hne, laneOf_eq_some (n := ⟨f.lane.toNat, hlane⟩) rfl]
  exact if_neg hfree

/-- R74: where an OUTPUT SET names all lanes, or one that is anchored, the anchors are all it changes. -/
theorem State.actOutputSet_named (h : f.lane = 255#8 ∨ ∃ a ∈ s.outputs.anchors, a.lane.val = f.lane.toNat) :
    s.actOutputSet source f =
      { s with outputs.anchors := s.outputs.anchors.map (Anchor.outputSetIfNamed f) } := by
  by_cases hall : f.lane = 255#8
  · have hnamed : Anchor.outputSetIfNamed f = Anchor.outputSet f := funext fun a => if_pos (.inl hall)
    rw [State.actOutputSet, if_pos hall, hnamed]
  · obtain ⟨x, hx, hlane⟩ := h.resolve_left hall
    have hnamed (a : Anchor) : (if a.lane = x.lane then a.outputSet f else a) = a.outputSetIfNamed f := by
      simp only [Anchor.outputSetIfNamed, Anchor.NamedBy, hall, false_or, ← hlane, Fin.ext_iff]
    rw [State.actOutputSet, if_neg hall, laneOf_eq_some hlane.symm]
    dsimp only
    rw [if_pos ((s.anchorOf_isSome _).mpr ⟨x, hx, rfl⟩)]
    simp only [hnamed]

end

/-- Settles O27: the fields named, the refusals, and the anchors of the lanes named. -/
theorem outputSetTakesLevelAndMute : Obligations.OutputSetTakesLevelAndMute := by
  intro source f s hacts
  refine ⟨fun hlane hne => next_whenActing hacts (State.actOutputSet_malformed hlane hne),
    fun hlane hnone => next_whenActing hacts (State.actOutputSet_notReady hlane hnone), fun hnamed =>
      ⟨_, next_whenActing hacts (State.actOutputSet_named hnamed), rfl, List.length_map _, fun m a ha =>
        ⟨a.outputSetIfNamed f, by simp [ha], fun hne hother => ?_, fun hnames => ?_⟩⟩⟩
  · exact if_neg (not_or.mpr ⟨hne, hother⟩)
  rw [Anchor.outputSetIfNamed, if_pos hnames]
  by_cases h : a.levelAfter f = a.level ∧ a.muteAfter f = a.mute
  · rw [Anchor.outputSet_of_same h.1 h.2]
    exact ⟨rfl, h.1.symm, h.2.symm, fun _ _ => rfl, fun hchanged => absurd rfl (hchanged.resolve_right (absurd rfl))⟩
  · rw [Anchor.outputSet_of_changed (not_and_or.mp h), Anchor.settleRunning_eq, Anchor.retarget_eq, Anchor.target_eq_coef]
    exact ⟨rfl, rfl, rfl, fun hlevel hmute => absurd ⟨hlevel, hmute⟩ h, fun _ => ⟨rfl, rfl⟩⟩

end Sys2Proof.Machine
end

section
/-! SUPPORT. What always holds of one anchor (R64), and that each of its operations keeps it. -/

namespace Sys2Proof.Machine

open Sys2Proof

/-! ### The parts of a sound anchor -/

/-- The part of `Anchor.Sound` that is of one field at a time, or of the ages by the output state. -/
structure Anchor.Ranged (a : Anchor) : Prop where
  settled : a.settledAge.isSome = a.state.isSettled
  pending : a.pendingAge.isSome = decide (a.state = .realignDown)
  badRun : a.badRun ≤ 48
  faulted : a.faulted = decide (a.badRun = 48)
  candidateRun : a.candidateRun ≤ 48
  candidateAge : a.candidateAge.isSome = decide (0 < a.candidateRun)
  level : -1440 ≤ a.level ∧ a.level ≤ 120
  profileLevel : -1440 ≤ a.profileLevel ∧ a.profileLevel ≤ 120
  ramp : a.ramp.Sound 240
  peak : a.peak ≤ 8388608

/-- The part of `Anchor.Sound` that ties the master ramp to the output state (R71 to R73). -/
structure Anchor.OnTarget (a : Anchor) : Prop where
  target : a.ramp.target = a.target
  progress : a.state = .rising ∨ a.state = .realignDown ∨ a.state = .realignUp → a.ramp.inProgress = true
  rest : a.state = .silent ∨ a.state = .settling → a.ramp.inProgress = false ∧ a.ramp.applied = 0

theorem Anchor.sound_iff (a : Anchor) : a.Sound ↔ a.Ranged ∧ a.OnTarget := by
  constructor
  · rintro ⟨settled, pending, badRun, faulted, run, age, level, profileLevel, ramp, target, progress, rest, peak⟩
    exact ⟨⟨settled, pending, badRun, faulted, run, age, level, profileLevel, ramp, peak⟩, target, progress, rest⟩
  · rintro ⟨⟨settled, pending, badRun, faulted, run, age, level, profileLevel, ramp, peak⟩, target, progress, rest⟩
    exact ⟨settled, pending, badRun, faulted, run, age, level, profileLevel, ramp, target, progress, rest, peak⟩

/-- The ramp suits the output state as long as what they are made of stands. -/
theorem Anchor.OnTarget.congr {a b : Anchor} (h : a.OnTarget) (hstate : b.state = a.state) (hlevel : b.level = a.level)
    (hmute : b.mute = a.mute) (hramp : b.ramp = a.ramp) : b.OnTarget where
  target := by
    rw [hramp, h.target]
    unfold Anchor.target
    rw [hstate, hlevel, hmute]
  progress := by
    rw [hstate, hramp]
    exact h.progress
  rest := by
    rw [hstate, hramp]
    exact h.rest

/-- The output states in which the master goes to its level or stands at it. -/
abbrev OutputState.IsUp (state : OutputState) : Prop := state = .rising ∨ state = .running ∨ state = .realignUp

theorem Anchor.target_of_not_up {a : Anchor} (h : ¬a.state.IsUp) : a.target = 0 := by
  rw [Anchor.target_eq, if_neg h]

theorem Anchor.settleRunning_eq_self {a : Anchor} (h : ¬a.state.IsUp) : a.settleRunning = a :=
  if_neg fun e => h (e.1.imp_right .inr)

section
variable {a : Anchor} (h : a.Ranged)
include h

theorem Anchor.Ranged.retarget {length : Nat} (hlength : 1 ≤ length ∧ length ≤ 240) : (a.retarget length).Ranged :=
  { h with ramp := h.ramp.retarget a.target_le hlength }

theorem Anchor.Ranged.running (hup : a.state.IsUp) : ({ a with state := .running } : Anchor).Ranged :=
  { h with
    settled := by rw [h.settled]; rcases hup with e | e | e <;> rw [e] <;> rfl
    pending := by rw [h.pending]; rcases hup with e | e | e <;> rw [e] <;> rfl }

/-- R72, R73: in the states on the way up, a recomputation leaves the ramp in progress or the anchor RUNNING. -/
theorem Anchor.Ranged.recomputed_up (hup : a.state.IsUp) {length : Nat} (hlength : 1 ≤ length ∧ length ≤ 240) :
    (a.retarget length).settleRunning.Sound := by
  have hranged := h.retarget hlength
  rw [Anchor.sound_iff, Anchor.settleRunning]
  have htarget : (a.retarget length).ramp.target = a.upTarget := by
    rw [Anchor.retarget_eq, Ramp.retarget_target, Anchor.target_eq, if_pos hup]
  split
  · exact ⟨hranged.running hup, htarget, nofun, nofun⟩
  · rename_i hstays
    rw [not_and, Bool.not_eq_false] at hstays
    refine ⟨hranged, Ramp.retarget_target .., fun e => hstays ?_, fun e => ?_⟩
    · rcases hup with hup | hup | hup
      · exact .inl hup
      · simp [Anchor.retarget_eq, hup] at e
      · exact .inr hup
    · rcases hup with hup | hup | hup <;> simp [Anchor.retarget_eq, hup] at e

/-! ### State entries (R69 to R71) -/

theorem Anchor.Ranged.enterRising (age : Fin 16) (hstate : a.state = .settling) : (a.enterRising age).Sound := by
  have hentered : ({ a with settledAge := some age, state := .rising } : Anchor).Ranged :=
    { h with settled := rfl, pending := by rw [h.pending, hstate]; rfl }
  exact hentered.recomputed_up (.inl rfl) (by decide)

theorem Anchor.Ranged.enterRealignUp (hsettled : a.settledAge.isSome = true) : a.enterRealignUp.Sound := by
  have hentered : ({ a with pendingAge := none, state := .realignUp } : Anchor).Ranged :=
    { h with settled := hsettled, pending := rfl }
  exact hentered.recomputed_up (.inr (.inr rfl)) (by decide)

theorem Anchor.Ranged.switch (hstate : a.state = .realignDown) : a.switch.anchor.Sound := by
  have hpending : a.pendingAge.isSome = true := by rw [h.pending, hstate]; rfl
  have hswitched : ({ a with settledAge := a.pendingAge } : Anchor).Ranged :=
    { h with settled := by rw [hpending, hstate]; rfl }
  exact hswitched.enterRealignUp hpending

theorem Anchor.Ranged.enterRealignDown (age : Fin 16) (hup : a.state.IsUp) : (a.enterRealignDown age).anchor.Sound := by
  by_cases hprogress : a.ramp.target ≠ 0 ∨ a.ramp.step < a.ramp.length
  · rw [Anchor.enterRealignDown_of_progress hprogress, Anchor.sound_iff]
    have hsettled : a.settledAge.isSome = true := by rw [h.settled]; rcases hup with e | e | e <;> rw [e] <;> rfl
    have hnot : ¬(a.goneDown age).state.IsUp := by simp [Anchor.goneDown]
    refine ⟨{ h with
      settled := hsettled, pending := rfl, ramp := h.ramp.retarget (Nat.zero_le _) (by decide) },
      (Ramp.retarget_target ..).trans (Anchor.target_of_not_up hnot).symm, fun _ =>
        Ramp.retarget_inProgress (by decide) (hprogress.imp Ne.symm Ramp.inProgress_iff.mpr), nofun⟩
  · rw [not_or, not_not, not_lt] at hprogress
    have hdown : ({ a with pendingAge := some age, settledAge := some age, state := .realignDown } : Anchor).Ranged :=
      { h with settled := rfl, pending := rfl }
    rw [Anchor.enterRealignDown_of_rest hprogress.1 hprogress.2]
    exact hdown.enterRealignUp rfl

end

/-! ### One record (R65 to R71) -/

section
variable {a : Anchor}

theorem Anchor.runCompleted_sound (h : a.Sound) (age : Fin 16) : (a.runCompleted age).anchor.Sound := by
  obtain ⟨hranged, hontarget⟩ := a.sound_iff.mp h
  by_cases hup : a.state.IsUp
  · by_cases hsettled : a.settledAge = some age
    · rwa [Anchor.runCompleted_settled hup hsettled]
    · rw [Anchor.runCompleted_realigns hup hsettled]
      exact hranged.enterRealignDown age hup
  by_cases hdown : a.state = .realignDown
  · by_cases hpending : a.pendingAge = some age
    · rwa [Anchor.runCompleted_pending hdown hpending]
    · by_cases hsettled : a.settledAge = some age
      · rw [Anchor.runCompleted_abandons hdown hpending hsettled]
        exact hranged.enterRealignUp (by rw [hsettled]; rfl)
      · rw [Anchor.runCompleted_repends hdown hpending hsettled, Anchor.sound_iff]
        exact ⟨{ hranged with pending := by rw [hdown]; rfl }, { hontarget with }⟩
  · by_cases hsettling : a.state = .settling
    · rw [Anchor.runCompleted_settling hsettling]
      exact hranged.enterRising age hsettling
    · have hsilent : a.state = .silent := by cases e : a.state <;> simp_all
      rw [Anchor.runCompleted, hsilent]
      exact h

theorem Anchor.enterSettling_sound (h : a.Sound) : a.enterSettling.Sound := by
  obtain ⟨hranged, hontarget⟩ := a.sound_iff.mp h
  unfold Anchor.enterSettling
  split
  · rename_i hsilent
    rw [Anchor.sound_iff]
    refine ⟨{ hranged with settled := ?_, pending := ?_ }, ?_, nofun, fun _ => hontarget.rest (.inl hsilent)⟩
    · rw [hranged.settled, hsilent]
      rfl
    · rw [hranged.pending, hsilent]
      rfl
    · rw [hontarget.target, Anchor.target_of_not_up (by simp [hsilent]), Anchor.target_of_not_up (by simp)]
  · exact h

theorem Anchor.withDelay_sound (h : a.Sound) (delay : Vector Int 238) (x : Int) :
    ({ a with delay := delay, lastWritten := x } : Anchor).Sound := by
  obtain ⟨hranged, hontarget⟩ := a.sound_iff.mp h
  exact (Anchor.sound_iff _).mpr ⟨{ hranged with }, { hontarget with }⟩

/-- R66: the bad run stays within 48, and faulted goes with it. -/
theorem Anchor.updateBadRun_sound (h : a.Sound) (r : HandOff) : (a.updateBadRun r).Sound := by
  obtain ⟨hranged, hontarget⟩ := a.sound_iff.mp h
  rw [Anchor.sound_iff]
  cases r with
  | good value age => exact ⟨{ hranged with badRun := Nat.zero_le _, faulted := rfl }, { hontarget with }⟩
  | bad =>
    refine ⟨{ hranged with badRun := min_le_left .., faulted := ?_ }, { hontarget with }⟩
    show (a.faulted || decide (47 = a.badRun)) = decide (min 48 (a.badRun + 1) = 48)
    have hrun := hranged.badRun
    rw [hranged.faulted, ← Bool.decide_or, decide_eq_decide]
    omega

/-- R68: the candidate run stays within 48, and the candidate age goes with it. -/
theorem Anchor.updateCandidate_sound (h : a.Sound) (r : HandOff) : (a.updateCandidate r).Sound := by
  obtain ⟨hranged, hontarget⟩ := a.sound_iff.mp h
  rw [Anchor.sound_iff]
  cases r with
  | good value age =>
    have hrun : ∀ n, n = (if a.candidateAge = some age then min 48 (a.candidateRun + 1) else 1) → 0 < n ∧ n ≤ 48 := by
      rintro n rfl
      split <;> omega
    obtain ⟨hpos, hle⟩ := hrun _ rfl
    rw [Anchor.updateCandidate_good]
    exact ⟨{ hranged with candidateRun := hle, candidateAge := (decide_eq_true hpos).symm }, { hontarget with }⟩
  | bad => exact ⟨{ hranged with candidateRun := Nat.zero_le _, candidateAge := rfl }, { hontarget with }⟩

theorem Anchor.recorded_sound (h : a.Sound) (r : HandOff) : (a.recorded r).Sound :=
  Anchor.updateCandidate_sound (Anchor.updateBadRun_sound (Anchor.withDelay_sound (Anchor.enterSettling_sound h) _ _) r) r

theorem Anchor.handOff_sound (h : a.Sound) (r : HandOff) : (a.handOff r).anchor.Sound := by
  unfold Anchor.handOff
  split
  · exact Anchor.recorded_sound h r
  · exact Anchor.runCompleted_sound (Anchor.recorded_sound h r) _

/-! ### Output processing (R73, R75, R76) -/

theorem Anchor.output_range (latency : Nat) (a : Anchor) :
    -8388608 ≤ a.output latency ∧ a.output latency ≤ 8388607 := clamp_range (by decide) _

theorem Anchor.Ranged.processed (h : a.Ranged) (latency : Nat) : (a.processed latency).Ranged :=
  { h with
    ramp := h.ramp.advance
    peak := by
      have hpeak := h.peak
      have hout := a.output_range latency
      show max a.peak (a.output latency).natAbs ≤ 8388608
      omega }

/-- R73: a step that does not complete the ramp leaves it in progress, or at rest. -/
theorem Anchor.OnTarget.processed (h : a.OnTarget) (latency : Nat) (hstep : a.ramp.step + 1 ≠ a.ramp.length) :
    (a.processed latency).OnTarget where
  target := (Ramp.advance_target _).trans h.target
  progress hstate := by
    have hprogress := Ramp.inProgress_iff.mp (h.progress hstate)
    show a.ramp.advance.inProgress = true
    rw [Ramp.advance_of_progress hprogress, Ramp.inProgress_iff]
    show a.ramp.step + 1 < a.ramp.length
    omega
  rest hstate := by
    obtain ⟨hrest, happlied⟩ := h.rest hstate
    show a.ramp.advance.inProgress = false ∧ a.ramp.advance.applied = 0
    rw [Ramp.advance_of_rest (Ramp.inProgress_eq_false_iff.mp hrest)]
    exact ⟨hrest, happlied⟩

/-- R73: in the states on the way up a completed ramp ends in RUNNING. -/
theorem Anchor.afterStep_of_isUp (hup : a.state.IsUp) : a.afterStep.anchor = { a with state := .running } := by
  rcases hup with hup | hup | hup
  · rw [Anchor.afterStep_up (.inl hup)]
  · have hsame : ({ a with state := .running } : Anchor) = a := by rw [← hup]
    rw [hsame, Anchor.afterStep, hup]
  · rw [Anchor.afterStep_up (.inr hup)]

theorem Anchor.process_sound (h : a.Sound) (latency : Nat) : (a.process latency).anchor.Sound := by
  obtain ⟨hranged, hontarget⟩ := a.sound_iff.mp h
  have hprocessed := hranged.processed latency
  by_cases hstep : a.ramp.step + 1 = a.ramp.length
  · rw [Anchor.process_of_completes latency hstep]
    have hprogress : a.ramp.inProgress = true := Ramp.inProgress_iff.mpr (by omega)
    by_cases hup : a.state.IsUp
    · have htarget : (a.processed latency).ramp.target = a.upTarget := by
        rw [Anchor.processed, Ramp.advance_target, hontarget.target, Anchor.target_eq, if_pos hup]
      rw [Anchor.afterStep_of_isUp (a := a.processed latency) hup, Anchor.sound_iff]
      exact ⟨hprocessed.running hup, htarget, nofun, nofun⟩
    · have hdown : a.state = .realignDown := by
        have hawake : ¬(a.state = .silent ∨ a.state = .settling) := fun e => by simp [hontarget.rest e] at hprogress
        cases e : a.state <;> simp_all
      rw [Anchor.afterStep_down (a := a.processed latency) hdown]
      exact hprocessed.switch hdown
  · rw [Anchor.process_of_not_completes latency hstep, Anchor.sound_iff]
    exact ⟨hprocessed, hontarget.processed latency hstep⟩

/-! ### OUTPUT SET, resets and peaks (R63, R64, R74, R76, R78) -/

theorem Anchor.levelAfter_range (h : -1440 ≤ a.level ∧ a.level ≤ 120) (f : OutputSetFields) :
    -1440 ≤ a.levelAfter f ∧ a.levelAfter f ≤ 120 := by
  unfold Anchor.levelAfter
  split
  · exact clampLevel_range _
  · exact h

theorem Anchor.outputSet_sound (h : a.Sound) (f : OutputSetFields) : (a.outputSet f).Sound := by
  by_cases hsame : a.levelAfter f = a.level ∧ a.muteAfter f = a.mute
  · rwa [Anchor.outputSet_of_same hsame.1 hsame.2]
  obtain ⟨hranged, hontarget⟩ := a.sound_iff.mp h
  have htaken : (a.fieldsTaken f).Ranged :=
    { hranged with level := Anchor.levelAfter_range hranged.level f }
  rw [Anchor.outputSet_of_changed (not_and_or.mp hsame)]
  by_cases hup : a.state.IsUp
  · exact htaken.recomputed_up hup (by split <;> decide)
  · have htarget : (a.fieldsTaken f).ramp.target = (a.fieldsTaken f).target :=
      hontarget.target.trans ((Anchor.target_of_not_up hup).trans (Anchor.target_of_not_up (a := a.fieldsTaken f) hup).symm)
    rw [Anchor.retarget_eq_self _ htarget, Anchor.settleRunning_eq_self (a := a.fieldsTaken f) hup, Anchor.sound_iff]
    exact ⟨htaken, htarget, hontarget.progress, hontarget.rest⟩

theorem Anchor.initial_sound (lane : LaneNo) (slot : SlotNo) {level : Int} (h : -1440 ≤ level ∧ level ≤ 120) :
    (Anchor.initial lane slot level).Sound :=
  (Anchor.sound_iff _).mpr ⟨⟨rfl, rfl, Nat.zero_le _, rfl, Nat.zero_le _, rfl, h, h, Ramp.rest_sound _, Nat.zero_le _⟩,
    rfl, nofun, fun _ => ⟨rfl, rfl⟩⟩

theorem Anchor.reset_sound (h : a.Sound) : a.reset.Sound :=
  Anchor.initial_sound _ _ ((Anchor.sound_iff _).mp h).1.profileLevel

/-- R64: a loss of lock keeps the level, the mute and the peak, at rest in SILENT. -/
theorem Anchor.lossOfLock_sound (h : a.Sound) : a.lossOfLock.Sound := by
  obtain ⟨hranged, -⟩ := a.sound_iff.mp h
  obtain ⟨hreset, hontarget⟩ := (Anchor.sound_iff _).mp (Anchor.reset_sound h)
  refine (Anchor.sound_iff _).mpr ⟨{ hreset with level := hranged.level, peak := hranged.peak }, ?_, hontarget.progress,
    hontarget.rest⟩
  exact (Anchor.target_of_not_up (by simp [Anchor.lossOfLock, Anchor.reset, Anchor.initial])).symm

theorem Anchor.peakCleared_sound (h : a.Sound) : a.peakCleared.Sound := by
  obtain ⟨hranged, hontarget⟩ := a.sound_iff.mp h
  exact (Anchor.sound_iff _).mpr ⟨{ hranged with peak := Nat.zero_le _ }, hontarget.congr rfl rfl rfl rfl⟩

/-! ### Lanes and slots (R63) -/

theorem Anchor.recorded_place (r : HandOff) (a : Anchor) :
    (a.recorded r).lane = a.lane ∧ (a.recorded r).slot = a.slot := by
  cases r with
  | good value age => rw [Anchor.recorded_good]; exact ⟨rfl, rfl⟩
  | bad => rw [Anchor.recorded_bad]; exact ⟨rfl, rfl⟩

theorem Anchor.handOff_place (r : HandOff) (a : Anchor) :
    (a.handOff r).anchor.lane = a.lane ∧ (a.handOff r).anchor.slot = a.slot := by
  obtain ⟨hlane, hslot⟩ := a.recorded_place r
  unfold Anchor.handOff
  split
  · exact ⟨hlane, hslot⟩
  · rename_i age _
    have hsame := (a.recorded r).runCompleted_sameRecord age
    exact ⟨hsame.lane.trans hlane, hsame.slot.trans hslot⟩

theorem Anchor.process_place (latency : Nat) (a : Anchor) :
    (a.process latency).anchor.lane = a.lane ∧ (a.process latency).anchor.slot = a.slot :=
  ⟨(a.process_sameRecord latency).lane, (a.process_sameRecord latency).slot⟩

theorem Anchor.outputSet_place (f : OutputSetFields) (a : Anchor) :
    (a.outputSet f).lane = a.lane ∧ (a.outputSet f).slot = a.slot := by
  by_cases h : a.levelAfter f = a.level ∧ a.muteAfter f = a.mute
  · rw [Anchor.outputSet_of_same h.1 h.2]
    exact ⟨rfl, rfl⟩
  · rw [Anchor.outputSet_of_changed (not_and_or.mp h), Anchor.settleRunning_eq]
    exact ⟨rfl, rfl⟩

/-! ### SILENT while not JOINED (R69, R78) -/

/-- R69: the output processing of an anchor in SILENT leaves it there. -/
theorem Anchor.process_silent (h : a.Sound) (hsilent : a.state = .silent) (latency : Nat) :
    (a.process latency).anchor.state = .silent := by
  have hrest := (((Anchor.sound_iff _).mp h).2.rest (.inl hsilent)).1
  rw [Ramp.inProgress_eq_false_iff] at hrest
  rw [Anchor.process_of_not_completes latency (by omega)]
  exact hsilent

/-- R74: an OUTPUT SET leaves SILENT as it is. -/
theorem Anchor.outputSet_silent (hsilent : a.state = .silent) (f : OutputSetFields) :
    (a.outputSet f).state = .silent := by
  by_cases h : a.levelAfter f = a.level ∧ a.muteAfter f = a.mute
  · rwa [Anchor.outputSet_of_same h.1 h.2]
  · rw [Anchor.outputSet_of_changed (not_and_or.mp h),
      Anchor.settleRunning_eq_self (by simp [Anchor.retarget_eq, Anchor.fieldsTaken, hsilent])]
    exact hsilent

end

end Sys2Proof.Machine
end

section
/-! SUPPORT. The part of the state that the anchors' invariant reads, and the operations that leave it alone. -/

namespace Sys2Proof.Machine

open Sys2Proof

/-- The Anchor Outputs and the start state: what R63, R64, R69 and R78 are of. -/
def State.stem (s : State) : AnchorOutputs × StartState := (s.outputs, s.clock.start)

/-- It stands with the Anchor Outputs and the clock. -/
theorem State.stem_congr {s t : State} (houtputs : t.outputs = s.outputs) (hclock : t.clock = s.clock) :
    t.stem = s.stem := by
  rw [State.stem, houtputs, hclock]
  rfl

/-- A fold of operations that leave it alone leaves it alone. -/
theorem State.stem_foldl {α : Type} {f : State → α → State} (hf : ∀ t a, (f t a).stem = t.stem) (l : List α)
    (s : State) : (l.foldl f s).stem = s.stem := by
  induction l generalizing s with
  | nil => rfl
  | cons a l ih => rw [List.foldl_cons, ih, hf]

section
variable (s : State)

/-! ### The primitive updates -/

@[simp] theorem State.stem_setStrip (n : StripNo) (st : Strip) : (s.setStrip n st).stem = s.stem := rfl
@[simp] theorem State.stem_mapStrips (f : StripNo → Strip → Strip) : (s.mapStrips f).stem = s.stem :=
  State.stem_congr (s.mapStrips_outputs f) (s.mapStrips_clock f)
@[simp] theorem State.stem_latchNode (e : NoticeEvent) : (s.latchNode e).stem = s.stem := rfl
@[simp] theorem State.stem_latchStrips (f : StripNo → List NoticeEvent) : (s.latchStrips f).stem = s.stem :=
  State.stem_congr (s.latchStrips_outputs f) (s.latchStrips_clock f)
@[simp] theorem State.stem_setGroup (g : GroupNo) (e : GroupEntry) : (s.setGroup g e).stem = s.stem := rfl
@[simp] theorem State.stem_setUnit (u : UnitNo) (c : CaptureUnit) : (s.setUnit u c).stem = s.stem := rfl
@[simp] theorem State.stem_emptyCues : s.emptyCues.stem = s.stem := rfl
@[simp] theorem State.stem_offer (m : OutMsg) : (s.offer m).stem = s.stem :=
  State.stem_congr (s.offer_outputs m) (s.offer_clock m)
@[simp] theorem State.stem_announce (b : Body) : (s.announce b).stem = s.stem := State.stem_offer ..
@[simp] theorem State.stem_refuse (source : Member) (kind object : Byte) (reason : Reason) :
    (s.refuse source kind object reason).stem = s.stem := State.stem_offer ..
@[simp] theorem State.stem_begun : s.begun.stem = s.stem := by simp [State.stem]

@[simp] theorem State.stem_setStripEffective (n : StripNo) (length : Nat) (st : Strip) :
    (s.setStripEffective n length st).stem = s.stem := by
  unfold State.setStripEffective
  split <;> rfl

/-! ### Commands by the object they name (R26, R100) -/

theorem State.stem_stripCommand (source : Member) (kind strip : Byte) {act : StripNo → State → State}
    (hact : ∀ n, (act n s).stem = s.stem) : (s.stripCommand source kind strip act).stem = s.stem := by
  unfold State.stripCommand
  split
  · exact hact _
  · exact s.stem_refuse ..

theorem State.stem_stripsCommand (source : Member) (kind strip : Byte) {act : StripNo → State → State}
    (hact : ∀ n t, (act n t).stem = t.stem) : (s.stripsCommand source kind strip act).stem = s.stem := by
  unfold State.stripsCommand
  split
  · exact State.stem_foldl (fun t n => hact n t) _ _
  · exact s.stem_stripCommand _ _ _ fun n => hact n s

theorem State.stem_unitCommand (source : Member) (kind unit : Byte) {act : UnitNo → State → State}
    (hact : ∀ u, (act u s).stem = s.stem) : (s.unitCommand source kind unit act).stem = s.stem := by
  unfold State.unitCommand
  split
  · exact hact _
  · exact s.stem_refuse ..

theorem State.stem_announced (source : Member) (group strip : Byte) {act : GroupNo → Key → State → State}
    (hact : ∀ g k, (act g k s).stem = s.stem) : (s.announced source group strip act).stem = s.stem := by
  unfold State.announced
  split
  · exact hact ..
  · rfl

theorem State.stem_soloAnnounced (source : Member) (strip : Byte) {act : Key → State → State}
    (hact : ∀ k, (act k s).stem = s.stem) : (s.soloAnnounced source strip act).stem = s.stem := by
  unfold State.soloAnnounced
  split
  · exact hact _
  · rfl

/-! ### STRIP SET, MUTE GROUP and PLACE (chapters 2 and 3) -/

@[simp] theorem State.stem_actStripSet (source : Member) (f : StripSetFields) :
    (s.actStripSet source f).stem = s.stem := by
  unfold State.actStripSet
  split
  · exact s.stem_refuse ..
  · refine s.stem_stripsCommand _ _ _ fun n t => ?_
    rw [State.applyStripSet_frame]
    rfl

@[simp] theorem State.stem_actMuteGroup (source : Member) (group state : Byte) :
    (s.actMuteGroup source group state).stem = s.stem := by
  unfold State.actMuteGroup
  split
  · exact State.stem_mapStrips ..
  · exact s.stem_refuse ..

@[simp] theorem State.stem_commit (n : StripNo) (taps : List Tap) : (s.commit n taps).stem = s.stem := by
  unfold State.commit
  dsimp only
  split
  · rfl
  · split <;> rfl

@[simp] theorem State.stem_actPlace (source : Member) (f : PlaceFields) : (s.actPlace source f).stem = s.stem := by
  unfold State.actPlace
  split
  · exact s.stem_refuse ..
  · split
    · unfold State.takePlace
      dsimp only
      split_ifs
      · exact State.stem_commit ..
      · rfl
      · exact State.stem_commit ..
    · exact State.stem_refuse ..

/-! ### Cues and the transport (chapter 6) -/

@[simp] theorem State.stem_offerCueTo (n : StripNo) (c : Cue) : (s.offerCueTo n c).stem = s.stem := by
  unfold State.offerCueTo
  dsimp only
  split <;> rfl

@[simp] theorem State.stem_actCue (source : Member) (f : CueFields) : (s.actCue source f).stem = s.stem := by
  refine s.stem_stripCommand _ _ _ fun n => ?_
  unfold State.takeCue
  split_ifs
  · rfl
  · rfl
  all_goals exact s.stem_offerCueTo ..

@[simp] theorem State.stem_actCueFlush (source : Member) (strip : Byte) : (s.actCueFlush source strip).stem = s.stem :=
  s.stem_stripsCommand _ _ _ fun _ _ => rfl

@[simp] theorem State.stem_fireCues (q : Position) : (s.fireCues q).stem = s.stem := by
  simp [State.stem, State.fireCues]

/-! ### Groups, touch edges and faders (chapters 6 and 8) -/

@[simp] theorem State.stem_handOn (g : GroupNo) : (s.handOn g).stem = s.stem := by
  rw [State.handOn_eq]
  rfl

@[simp] theorem State.stem_releaseIfLead (g : Option GroupNo) (n : StripNo) : (s.releaseIfLead g n).stem = s.stem := by
  unfold State.releaseIfLead
  split
  · split
    · simp [State.releaseLead]
    · rfl
  · rfl

@[simp] theorem State.stem_groupTouch (n : StripNo) : (s.groupTouch n).stem = s.stem := by
  unfold State.groupTouch
  split
  · split
    · exact State.stem_announce ..
    · rfl
  · rfl

@[simp] theorem State.stem_captureEdge (n : StripNo) (mark : Byte) : (s.captureEdge n mark).stem = s.stem := by
  unfold State.captureEdge
  split
  · split <;> rfl
  · rfl

@[simp] theorem State.stem_actTouch (source : Member) (strip touched : Byte) :
    (s.actTouch source strip touched).stem = s.stem := by
  refine s.stem_stripCommand _ _ _ fun n => ?_
  unfold State.touchOn State.touchOff
  dsimp only
  split_ifs <;> simp

@[simp] theorem State.stem_applyDelta (g : GroupNo) (change : Int) : (s.applyDelta g change).stem = s.stem :=
  (State.stem_latchStrips ..).trans (s.stem_mapStrips _)

@[simp] theorem State.stem_actFader (source : Member) (strip : Byte) (level : BitVec 16) :
    (s.actFader source strip level).stem = s.stem := by
  refine s.stem_stripCommand _ _ _ fun n => ?_
  unfold State.moveFader
  split
  · rfl
  · rw [State.handMove_eq]
    exact s.stem_setStripEffective ..

@[simp] theorem State.stem_actGroupClaim (source : Member) (group strip : Byte) :
    (s.actGroupClaim source group strip).stem = s.stem := by
  refine s.stem_announced _ _ _ fun g k => ?_
  unfold State.takeClaim
  split
  · rfl
  · split_ifs <;> rfl

@[simp] theorem State.stem_actGroupRelease (source : Member) (group strip : Byte) :
    (s.actGroupRelease source group strip).stem = s.stem := by
  refine s.stem_announced _ _ _ fun g k => ?_
  unfold State.takeRelease
  split
  · exact State.stem_handOn ..
  · rfl

@[simp] theorem State.stem_actGroupDelta (source : Member) (group strip : Byte) (change : BitVec 16) :
    (s.actGroupDelta source group strip change).stem = s.stem := by
  refine s.stem_announced _ _ _ fun g k => ?_
  unfold State.takeDelta
  split
  · rw [State.stem_setGroup, State.stem_applyDelta]
  · rfl

/-! ### Solo and the Census (chapter 7) -/

@[simp] theorem State.stem_judgeSolo : s.judgeSolo.stem = s.stem := by
  unfold State.judgeSolo
  split
  · rfl
  · exact State.stem_mapStrips ..

@[simp] theorem State.stem_soloChanged (n : StripNo) : (s.soloChanged n).stem = s.stem := by
  unfold State.soloChanged
  split
  · rfl
  · exact s.stem_judgeSolo

@[simp] theorem State.stem_soloStrip (n : StripNo) : (s.soloStrip n).stem = s.stem := by
  unfold State.soloStrip
  split
  · rfl
  · rw [State.stem_soloChanged, State.stem_announce]
    rfl

@[simp] theorem State.stem_unsoloStrip (n : StripNo) : (s.unsoloStrip n).stem = s.stem := by
  unfold State.unsoloStrip
  split
  · rw [State.stem_soloChanged, State.stem_announce]
    rfl
  · rfl

@[simp] theorem State.stem_actSolo (source : Member) (strip state : Byte) :
    (s.actSolo source strip state).stem = s.stem := by
  refine s.stem_stripsCommand _ _ _ fun n t => ?_
  split
  · exact t.stem_soloStrip n
  · exact t.stem_unsoloStrip n

@[simp] theorem State.stem_learnKey (k : Key) : (s.learnKey k).stem = s.stem := by
  have hlearned (t : State) (i : Fin 3) : (t.learnIn i k).stem = t.stem := by
    unfold State.learnIn
    dsimp only
    split <;> rfl
  rw [State.learnKey, State.stem_judgeSolo, hlearned, hlearned]

@[simp] theorem State.stem_removeKey (k : Key) : (s.removeKey k).stem = s.stem := State.stem_judgeSolo _

@[simp] theorem State.stem_rotate : s.rotate.stem = s.stem := State.stem_judgeSolo _

@[simp] theorem State.stem_ageGroup (g : GroupNo) : (s.ageGroup g).stem = s.stem := by
  unfold State.ageGroup
  split
  · rfl
  · split_ifs
    · rfl
    · exact State.stem_handOn ..
    · rfl

@[simp] theorem State.stem_ageGroups : s.ageGroups.stem = s.stem := State.stem_foldl State.stem_ageGroup _ _

@[simp] theorem State.stem_markSoloed : s.markSoloed.stem = s.stem := by simp only [State.markSoloed, State.stem]

@[simp] theorem State.stem_restartAging : s.restartAging.stem = s.stem := by
  have hrotated (t : State) : t.rotateOrHold.stem = t.stem := by
    unfold State.rotateOrHold
    split
    · rfl
    · exact t.stem_rotate
  rw [State.restartAging, State.agingEvent, State.stem_markSoloed, State.stem_ageGroups, hrotated]
  rfl

@[simp] theorem State.stem_clearStep (i : Fin 128) : (s.clearStep i).stem = s.stem := by
  unfold State.clearStep State.clearingDone
  dsimp only
  split_ifs
  · rfl
  · exact State.stem_rotate _
  · rfl

@[simp] theorem State.stem_takeMark : s.takeMark.stem = s.stem := by
  unfold State.takeMark State.claimRefresh
  split
  · exact State.stem_announce ..
  · split
    · split
      · split
        · exact State.stem_announce ..
        · rfl
      · rfl
    · rfl

/-! ### Capture units (chapter 9) -/

@[simp] theorem State.stem_releaseBinding (u : UnitNo) : (s.releaseBinding u).stem = s.stem := by
  rw [State.releaseBinding_eq]
  rfl

@[simp] theorem State.stem_finish (u : UnitNo) (q : Position) (flags condition : Byte) :
    (s.finish u q flags condition).stem = s.stem := State.stem_releaseBinding ..

@[simp] theorem State.stem_sample (u : UnitNo) (q : Position) : (s.sample u q).stem = s.stem := by
  unfold State.sample
  dsimp only
  split_ifs
  · exact State.stem_finish ..
  · rfl
  · rfl

@[simp] theorem State.stem_unitPosition (q : Position) (u : UnitNo) : (s.unitPosition q u).stem = s.stem := by
  unfold State.unitPosition State.enterWriting
  split
  case h_1 | h_3 => split <;> simp
  case h_2 => exact s.stem_sample ..
  all_goals rfl

@[simp] theorem State.stem_unitsPosition (q : Position) : (s.unitsPosition q).stem = s.stem :=
  State.stem_foldl (State.stem_unitPosition · q) _ _

@[simp] theorem State.stem_unitsEnd (q : Position) (condition : Byte) : (s.unitsEnd q condition).stem = s.stem := by
  refine State.stem_foldl (fun t u => ?_) _ _
  unfold State.unitEnd
  split
  case h_1 | h_2 => exact t.stem_finish ..
  all_goals rfl

@[simp] theorem State.stem_endDrain (u : UnitNo) : (s.endDrain u).stem = s.stem := by
  rw [State.endDrain_eq]
  rfl

@[simp] theorem State.stem_endEmpty (u : UnitNo) (conditions : Byte) : (s.endEmpty u conditions).stem = s.stem :=
  (State.stem_endDrain ..).trans (State.stem_releaseBinding ..)

@[simp] theorem State.stem_actCaptureStart (source : Member) (f : CaptureStartFields) :
    (s.actCaptureStart source f).stem = s.stem := by
  have harmed (u : UnitNo) (settings : CaptureSettings) : (s.startArmed u settings).stem = s.stem := by
    unfold State.startArmed
    dsimp only
    split
    · exact State.stem_sample ..
    · rfl
  unfold State.actCaptureStart
  split
  · split_ifs <;> simp [State.startEnded, harmed]
  · exact s.stem_refuse ..

@[simp] theorem State.stem_actCaptureStop (source : Member) (unit : Byte) :
    (s.actCaptureStop source unit).stem = s.stem := by
  refine s.stem_unitCommand _ _ _ fun u => ?_
  unfold State.stopUnit
  split
  case h_1 | h_2 => exact s.stem_finish ..
  case h_3 => exact s.stem_endEmpty ..
  all_goals exact s.stem_refuse ..

@[simp] theorem State.stem_actCaptureSuspend (source : Member) (unit : Byte) :
    (s.actCaptureSuspend source unit).stem = s.stem := by
  refine s.stem_unitCommand _ _ _ fun u => ?_
  unfold State.suspendUnit
  split
  · rfl
  · exact s.stem_refuse ..

@[simp] theorem State.stem_actCaptureResume (source : Member) (unit : Byte) :
    (s.actCaptureResume source unit).stem = s.stem := by
  refine s.stem_unitCommand _ _ _ fun u => ?_
  unfold State.resumeUnit
  split
  · rfl
  · exact s.stem_refuse ..

@[simp] theorem State.stem_actCaptureClear (source : Member) (unit : Byte) :
    (s.actCaptureClear source unit).stem = s.stem := by
  refine s.stem_unitCommand _ _ _ fun u => ?_
  unfold State.clearUnit
  split
  case h_1 | h_2 | h_3 => exact s.stem_endEmpty ..
  case h_4 => exact State.stem_releaseBinding ..
  all_goals rfl

@[simp] theorem State.stem_packingTurn (u : UnitNo) : (s.packingTurn u).stem = s.stem := by
  have hheld (t : State) : (t.offerHeldEnd u).stem = t.stem := by
    unfold State.offerHeldEnd
    dsimp only
    split
    · split
      · exact State.stem_offer ..
      · rfl
    · rfl
  have hwork (t : State) : (t.turnWork u).stem = t.stem := by
    unfold State.turnWork
    dsimp only
    split
    · exact hheld t
    · split_ifs <;> simp [State.pack]
  exact hwork _

/-! ### Messages and periods (chapters 1, 5 and 11) -/

@[simp] theorem State.stem_loseEntries (n : Nat) : (s.loseEntries n).stem = s.stem := by
  induction n generalizing s with
  | zero => rfl
  | succ n ih => exact ih _

@[simp] theorem State.stem_ownReturn (kind : Byte) : (s.ownReturn kind).stem = s.stem := by
  unfold State.ownReturn
  split
  · exact State.stem_loseEntries ..
  · split <;> rfl

@[simp] theorem State.stem_timeoutEntries : s.timeoutEntries.stem = s.stem := State.stem_loseEntries ..

@[simp] theorem State.stem_insert : s.insert.stem = s.stem := State.stem_congr s.insert_outputs s.insert_clock

@[simp] theorem State.stem_closePeriod : s.closePeriod.stem = s.stem := by
  unfold State.closePeriod
  split <;> rfl

@[simp] theorem State.stem_openPeriod : s.openPeriod.stem = s.stem := rfl

@[simp] theorem State.stem_processSamples (samples : List Sample) : (s.processSamples samples).stem = s.stem := by
  simp [State.stem, State.processSamples]

@[simp] theorem State.stem_takeReference (position : Position) (rolling valid : Bool) :
    (s.takeReference position rolling valid).stem = s.stem := by
  have htransport (t : State) (r u : Bool) : (t.transportChange r u).stem = t.stem := by
    unfold State.transportChange State.parkIn
    split_ifs <;> simp [State.stripsRoll, State.stripsPark]
  have hposition (t : State) (q : Position) (r u : Bool) : (t.positionEvent q r u).stem = t.stem := by
    unfold State.positionEvent State.positionIn
    split_ifs <;> simp [State.jump]
  have hfaulted : (if valid then s else s.latchNode .positionFault).stem = s.stem := by split <;> rfl
  exact (hposition ..).trans ((htransport ..).trans hfaulted)

/-! ### Reports and queries (chapters 5 and 10) -/

@[simp] theorem State.stem_visit (src : SourceNo) : (s.visit src).stem = s.stem := by
  unfold State.visit
  split
  · exact State.stem_offer ..
  · rfl

theorem State.stem_answer (source : Member) (item : QueryItem) (object : Byte) (shares : List ReplyShare)
    {after : State → State} (hafter : ∀ t, (after t).stem = t.stem) :
    (s.answer source item object shares after).stem = s.stem := by
  unfold State.answer
  split
  · exact s.stem_refuse ..
  · rw [hafter, State.stem_foldl fun t _ => State.stem_offer ..]

section
variable (source : Member) (object : Byte)

@[simp] theorem State.stem_actQueryStrip : (s.actQueryStrip source object).stem = s.stem := by
  unfold State.actQueryStrip
  split
  · exact State.stem_answer _ _ _ _ _ fun _ => rfl
  · exact State.stem_refuse ..

@[simp] theorem State.stem_actQueryCues : (s.actQueryCues source object).stem = s.stem := by
  unfold State.actQueryCues
  split
  · exact State.stem_answer _ _ _ _ _ fun _ => rfl
  · exact State.stem_refuse ..

@[simp] theorem State.stem_actQueryCensus : (s.actQueryCensus source object).stem = s.stem :=
  State.stem_answer _ _ _ _ _ fun _ => rfl

@[simp] theorem State.stem_actQueryGroup : (s.actQueryGroup source object).stem = s.stem := by
  unfold State.actQueryGroup
  split
  · exact State.stem_answer _ _ _ _ _ fun _ => rfl
  · exact State.stem_refuse ..

@[simp] theorem State.stem_actQueryCapture : (s.actQueryCapture source object).stem = s.stem := by
  unfold State.actQueryCapture
  split
  · exact State.stem_answer _ _ _ _ _ fun _ => rfl
  · exact State.stem_refuse ..

@[simp] theorem State.stem_actQueryAnchor : (s.actQueryAnchor source object).stem = s.stem := by
  unfold State.actQueryAnchor
  split
  · exact State.stem_answer _ _ _ _ _ fun _ => rfl
  · exact State.stem_refuse ..

@[simp] theorem State.stem_actQueryCounters (clear : Byte) : (s.actQueryCounters source object clear).stem = s.stem := by
  refine State.stem_answer _ _ _ _ _ fun t => ?_
  split <;> rfl

@[simp] theorem State.stem_actQuery (item clear : Byte) : (s.actQuery source item object clear).stem = s.stem := by
  unfold State.actQuery
  split <;> simp [State.refuseQuery]

end

end

end Sys2Proof.Machine
end

section
/-! O59: every command keeps the anchors sound. -/

namespace Sys2Proof.Machine

open Sys2Proof

/-- `State.AnchorsSound` with its parts named. That the anchors are at most 32 follows from their slots. -/
structure State.AnchorsKept (s : State) : Prop where
  lanes : (s.outputs.anchors.map Anchor.lane).Nodup
  slots : (s.outputs.anchors.map Anchor.slot).Nodup
  sound : ∀ a ∈ s.outputs.anchors, a.Sound
  silent : s.clock.start ≠ .joined → ∀ a ∈ s.outputs.anchors, a.state = .silent
  samples : ∀ slot : SlotNo, -8388608 ≤ s.outputs.slots[slot] ∧ s.outputs.slots[slot] ≤ 8388607

theorem State.anchorsKept_iff (s : State) : s.AnchorsKept ↔ s.AnchorsSound := by
  constructor
  · rintro ⟨lanes, slots, sound, silent, samples⟩
    exact ⟨length_le_of_slots_nodup slots, lanes, slots, sound, silent, samples⟩
  · rintro ⟨-, lanes, slots, sound, silent, samples⟩
    exact ⟨lanes, slots, sound, silent, samples⟩

/-- R168: at power reset there is no anchor and every slot is silent. -/
theorem State.reset_anchorsKept : State.reset.AnchorsKept := (State.anchorsKept_iff _).mpr State.reset_anchorsSound

section
variable {s : State} (h : s.AnchorsKept)
include h

/-! ### What keeps the anchors sound -/

/-- A change of the start state alone, to JOINED or from a state that is not. -/
theorem State.AnchorsKept.withStart {t : State} (houtputs : t.outputs = s.outputs)
    (hstart : t.clock.start ≠ .joined → s.clock.start ≠ .joined) : t.AnchorsKept where
  lanes := houtputs ▸ h.lanes
  slots := houtputs ▸ h.slots
  sound := houtputs ▸ h.sound
  silent := fun ht => houtputs ▸ h.silent (hstart ht)
  samples := houtputs ▸ h.samples

theorem State.AnchorsKept.of_stem {t : State} (e : t.stem = s.stem) : t.AnchorsKept := by
  simp only [State.stem, Prod.mk.injEq] at e
  exact h.withStart e.1 fun ht => e.2 ▸ ht

/-- A step under a condition, and otherwise nothing. -/
theorem State.AnchorsKept.ite {t : State} {p : Prop} [Decidable p] (ht : p → t.AnchorsKept) :
    (if p then t else s).AnchorsKept := by
  split
  · exact ht ‹_›
  · exact h

theorem State.AnchorsKept.whenActing (source : Member) {act : State → State} (hact : (act s).AnchorsKept) :
    (s.whenActing source act).AnchorsKept := h.ite fun _ => hact

/-- A change of every anchor by its number, on its own lane and slot. -/
theorem State.AnchorsKept.mapIdxAnchors {t : State} {f : Nat → Anchor → Anchor}
    (hanchors : t.outputs.anchors = s.outputs.anchors.mapIdx f)
    (hplace : ∀ m a, (f m a).lane = a.lane ∧ (f m a).slot = a.slot) (hsound : ∀ m a, a.Sound → (f m a).Sound)
    (hsilent : t.clock.start ≠ .joined → ∀ m, ∀ a ∈ s.outputs.anchors, (f m a).state = .silent)
    (hsamples : ∀ slot : SlotNo, -8388608 ≤ t.outputs.slots[slot] ∧ t.outputs.slots[slot] ≤ 8388607) :
    t.AnchorsKept := by
  have hlanes : (s.outputs.anchors.mapIdx f).map Anchor.lane = s.outputs.anchors.map Anchor.lane :=
    List.ext_getElem (by simp) fun m _ _ => by simp [(hplace m _).1]
  have hslots : (s.outputs.anchors.mapIdx f).map Anchor.slot = s.outputs.anchors.map Anchor.slot :=
    List.ext_getElem (by simp) fun m _ _ => by simp [(hplace m _).2]
  have hmem {b : Anchor} (hb : b ∈ t.outputs.anchors) : ∃ m, ∃ a ∈ s.outputs.anchors, f m a = b := by
    rw [hanchors, List.mem_mapIdx] at hb
    obtain ⟨m, hm, e⟩ := hb
    exact ⟨m, _, List.getElem_mem hm, e⟩
  refine ⟨?_, ?_, fun b hb => ?_, fun hstart b hb => ?_, hsamples⟩
  · rw [hanchors, hlanes]
    exact h.lanes
  · rw [hanchors, hslots]
    exact h.slots
  · obtain ⟨m, a, ha, rfl⟩ := hmem hb
    exact hsound m a (h.sound a ha)
  · obtain ⟨m, a, ha, rfl⟩ := hmem hb
    exact hsilent hstart m a ha

/-- A change of every anchor, on its own lane and slot. -/
theorem State.AnchorsKept.mapAnchors {t : State} {f : Anchor → Anchor}
    (hanchors : t.outputs.anchors = s.outputs.anchors.map f)
    (hplace : ∀ a, (f a).lane = a.lane ∧ (f a).slot = a.slot) (hsound : ∀ a, a.Sound → (f a).Sound)
    (hsilent : t.clock.start ≠ .joined → ∀ a ∈ s.outputs.anchors, (f a).state = .silent)
    (hsamples : ∀ slot : SlotNo, -8388608 ≤ t.outputs.slots[slot] ∧ t.outputs.slots[slot] ≤ 8388607) :
    t.AnchorsKept :=
  h.mapIdxAnchors (f := fun _ => f) (hanchors.trans (List.ext_getElem (by simp) fun m _ _ => by simp))
    (fun _ => hplace) (fun _ => hsound) (fun hstart _ => hsilent hstart) hsamples

/-! ### Emission and output processing (R18, R19, R75 to R77) -/

/-- R18: records are handed over while JOINED. -/
theorem State.AnchorsKept.handOffs : s.handOffs.AnchorsKept := by
  refine h.ite fun hjoined => ?_
  have hstart : s.clock.start = .joined := by simpa [State.joined] using hjoined
  exact h.mapAnchors (f := fun a => (a.handOff (s.handOffOf a.lane)).anchor) List.map_map
    (fun a => a.handOff_place _) (fun a ha => Anchor.handOff_sound ha _) (fun hnot => absurd hstart hnot) h.samples

theorem State.AnchorsKept.begun_emit : s.begun.emit.AnchorsKept := by
  have hinserted : s.begun.insert.AnchorsKept := h.of_stem (by simp)
  exact hinserted.handOffs.of_stem rfl

/-- R75, R77: a slot carries a sample or silence. -/
theorem State.AnchorsKept.processOutputs : s.processOutputs.AnchorsKept := by
  refine h.mapAnchors s.processOutputs_anchors (fun a => a.process_place _) (fun a ha => Anchor.process_sound ha _)
    (fun hstart a ha => Anchor.process_silent (h.sound a ha) (h.silent hstart a ha) _) fun slot => ?_
  rw [State.processOutputs_slots, State.slotSamples, Fin.getElem_fin, Vector.getElem_ofFn]
  split
  · exact Anchor.output_range ..
  · decide

/-! ### OUTPUT SET, meters and the profile (R63, R74, R76) -/

theorem State.AnchorsKept.actOutputSet (source : Member) (f : OutputSetFields) : (s.actOutputSet source f).AnchorsKept := by
  by_cases hnamed : f.lane = 255#8 ∨ ∃ a ∈ s.outputs.anchors, a.lane.val = f.lane.toNat
  · rw [State.actOutputSet_named hnamed]
    refine h.mapAnchors rfl (fun a => ?_) (fun a ha => ?_) (fun hstart a ha => ?_) h.samples
    all_goals
      unfold Anchor.outputSetIfNamed
      split
    · exact a.outputSet_place f
    · exact ⟨rfl, rfl⟩
    · exact Anchor.outputSet_sound ha f
    · exact ha
    · exact Anchor.outputSet_silent (h.silent hstart a ha) f
    · exact h.silent hstart a ha
  · rw [not_or] at hnamed
    rcases lt_or_ge f.lane.toNat 64 with hlane | hlane
    · rw [State.actOutputSet_notReady hlane fun a ha e => hnamed.2 ⟨a, ha, e⟩]
      exact h.of_stem (s.stem_refuse ..)
    · rw [State.actOutputSet_malformed hlane hnamed.1]
      exact h.of_stem (s.stem_refuse ..)

/-- R76: a meter event clears peaks. -/
theorem State.AnchorsKept.meterReports : s.meterReports.AnchorsKept := by
  have hstart : s.meterReports.clock = s.clock := by rw [State.meterReports_frame]
  have hreported (m n : Nat) (a : Anchor) : reported Anchor.peakCleared m n a = a.peakCleared ∨
      reported Anchor.peakCleared m n a = a := by
    unfold reported
    split
    · exact .inl rfl
    · exact .inr rfl
  rw [State.meterReports_eq] at hstart ⊢
  refine h.mapIdxAnchors (f := reported Anchor.peakCleared (s.metersQueued - 4)) rfl (fun m a => ?_) (fun m a ha => ?_)
    (fun hnot m a ha => ?_) h.samples
  all_goals rcases hreported (s.metersQueued - 4) m a with e | e <;> rw [e]
  · exact ⟨rfl, rfl⟩
  · exact ⟨rfl, rfl⟩
  · exact Anchor.peakCleared_sound ha
  · exact ha
  · exact h.silent hnot a ha
  · exact h.silent hnot a ha

omit h in
/-- R63, R169: the anchors a profile sets are those of its entries, and the default profile has none. -/
theorem loadProfile_anchors (memory : Option (List Byte)) :
    ∃ entries, AcceptedFrom entries (loadProfile memory).anchors := by
  unfold loadProfile
  split
  · split
    · exact ⟨_, acceptEntries_acceptedFrom _⟩
    · exact ⟨[], acceptEntries_acceptedFrom []⟩
  · exact ⟨[], acceptEntries_acceptedFrom []⟩

theorem State.AnchorsKept.profileTaken {l : ProfileLoad} {entries : List AnchorEntry}
    (hl : AcceptedFrom entries l.anchors) : (s.profileTaken l).AnchorsKept := by
  have hloaded : ({ s with
      clock.start := .unlocked, outputs := { anchors := l.anchors, slots := s.outputs.slots } } : State).AnchorsKept := by
    refine ⟨hl.lanes, hl.slots, fun a ha => ?_, fun _ a ha => ?_, h.samples⟩
    all_goals obtain ⟨e, -, -, -, hinitial⟩ := hl.entry a ha
    · rw [hinitial]
      exact Anchor.initial_sound _ _ (clampLevel_range _)
    · rw [hinitial]
      rfl
  refine hloaded.of_stem ?_
  rw [State.profileTaken, State.stem_foldl fun _ _ => State.stem_latchNode ..]
  simp [State.stem]

/-! ### Resets, lock and joining (R64, R78, R170, R171) -/

theorem State.AnchorsKept.nodeReset : s.nodeReset.AnchorsKept :=
  h.mapAnchors rfl (fun _ => ⟨rfl, rfl⟩) (fun _ ha => Anchor.reset_sound ha) (fun _ _ _ => rfl) h.samples

theorem State.AnchorsKept.loseLock : s.loseLock.AnchorsKept :=
  h.mapAnchors rfl (fun _ => ⟨rfl, rfl⟩) (fun _ ha => Anchor.lossOfLock_sound ha) (fun _ _ _ => rfl) fun slot => by
    have hsilent : s.loseLock.outputs.slots[slot] = 0 := by simp [State.loseLock, silentSlots]
    rw [hsilent]
    decide

theorem State.AnchorsKept.gainLock (hstart : s.clock.start = .unlocked) : s.gainLock.AnchorsKept :=
  h.withStart rfl fun _ => by simp [hstart]

theorem State.AnchorsKept.lockEdge (hstart : s.clock.start = .unlocked) : s.lockEdge.AnchorsKept := by
  unfold State.lockEdge
  split
  · exact h.of_stem rfl
  · exact h.gainLock hstart

theorem State.AnchorsKept.countGood : s.countGood.AnchorsKept := by
  unfold State.countGood
  split
  · exact h.of_stem rfl
  · exact h.withStart rfl fun hnot => absurd rfl hnot

/-! ### Messages and arrivals (R3, R82 to R85) -/

theorem State.AnchorsKept.act (kind : Byte) (source : Member) (p : List Byte) : (s.act kind source p).AnchorsKept := by
  unfold State.act
  split
  case h_14 => exact h.actOutputSet ..
  case h_18 => exact h.nodeReset
  all_goals refine h.of_stem ?_
  case h_16 | h_25 => rfl
  case h_17 => exact s.stem_restartAging
  case h_22 | h_23 => exact s.stem_soloAnnounced _ _ s.stem_learnKey
  case h_24 => exact s.stem_soloAnnounced _ _ s.stem_removeKey
  all_goals simp

theorem State.AnchorsKept.takeSlot (c : SlotCase) : (s.takeSlot c).AnchorsKept := by
  unfold State.takeSlot
  split
  · exact h
  · exact h.ite fun _ => h.of_stem (s.stem_ownReturn _)
  · exact h.of_stem rfl
  · exact h.ite fun _ => h.act ..

theorem State.AnchorsKept.arrival (bytes : List Byte) : (s.arrival bytes).AnchorsKept := by
  unfold State.arrival
  split
  · exact h.of_stem rfl
  · split
    · have hplaced : (s.placeArrival bytes).AnchorsKept := h.of_stem rfl
      have htaken := hplaced.takeSlot (classify s.clock.member (frameSlot bytes))
      exact htaken.ite fun _ => htaken.countGood
    · refine h.of_stem ?_
      rfl

/-! ### Commands -/

theorem execWordClockEdge_anchorsKept (e : Edge) : ∃ t, execWordClockEdge e s = .next t ∧ t.AnchorsKept := by
  refine ⟨_, rfl, ?_⟩
  split
  case h_1 | h_2 => exact h
  case h_3 hstart => exact h.lockEdge hstart
  case h_4 | h_5 => exact h.of_stem rfl
  case h_6 | h_7 => exact h.of_stem (by simp)
  all_goals exact h.loseLock

theorem execRefreshWalkTurn_anchorsKept : ∃ t, execRefreshWalkTurn s = .next t ∧ t.AnchorsKept := by
  have hturned : ({ s with clock.taken.walked := true } : State).AnchorsKept := h.of_stem rfl
  exact ⟨_, rfl, h.ite fun _ => hturned.ite fun _ => hturned.of_stem (State.stem_takeMark _)⟩

theorem execMeterEvent_anchorsKept : ∃ t, execMeterEvent s = .next t ∧ t.AnchorsKept := by
  have hrestarted : ({ s with reports.meterCount := 0 } : State).AnchorsKept := h.of_stem rfl
  exact ⟨_, rfl, h.ite fun _ => hrestarted.ite fun _ => hrestarted.meterReports⟩

theorem execCensusClearing_anchorsKept : ∃ t, execCensusClearing s = .next t ∧ t.AnchorsKept := by
  refine ⟨_, rfl, ?_⟩
  split
  · exact h.ite fun _ => h.of_stem (s.stem_clearStep _)
  · exact h

/-- Every command answers a state with its anchors sound. -/
theorem exec_anchorsKept (c : Instr) : ∃ t, exec c s = .next t ∧ t.AnchorsKept := by
  have hstem {t : State} {p : Prop} [Decidable p] (e : t.stem = s.stem) : (if p then t else s).AnchorsKept :=
    h.ite fun _ => h.of_stem e
  have hact {act : State → State} (source : Member) (e : (act s).stem = s.stem) : (s.whenActing source act).AnchorsKept :=
    h.whenActing source (h.of_stem e)
  cases c with
  | powerReset => exact ⟨_, rfl, State.reset_anchorsKept.of_stem rfl⟩
  | powerResetRelease straps =>
    exact ⟨_, rfl, h.ite fun _ => State.reset_anchorsKept.withStart rfl fun _ => by decide⟩
  | profileReadEnd memory =>
    obtain ⟨entries, hl⟩ := loadProfile_anchors memory
    exact ⟨_, rfl, h.ite fun _ => h.profileTaken hl⟩
  | lockGained => exact ⟨_, rfl, h.ite fun hlock => h.gainLock hlock.1⟩
  | lossOfLock => exact ⟨_, rfl, h.ite fun _ => h.loseLock⟩
  | joining frame => exact ⟨_, rfl, h.ite fun _ => h.arrival frame⟩
  | quietWindowEnd => exact ⟨_, rfl, hstem rfl⟩
  | frameArrival frame => exact ⟨_, rfl, h.ite fun _ => h.arrival frame⟩
  | frameEmission => exact ⟨_, rfl, h.ite fun _ => h.begun_emit⟩
  | faultBegun anchor => exact ⟨_, rfl, h.ite fun _ => h.begun_emit⟩
  | runCompleted anchor => exact ⟨_, rfl, h.ite fun _ => h.begun_emit⟩
  | realignSwitch anchor => exact ⟨_, rfl, h.ite fun _ => h.processOutputs⟩
  | enterRunning anchor => exact ⟨_, rfl, h.ite fun _ => h.processOutputs⟩
  | insertion => exact ⟨_, rfl, h.of_stem s.stem_insert⟩
  | inflightTimeout => exact ⟨_, rfl, h.of_stem s.stem_timeoutEntries⟩
  | historyAdvance => exact ⟨_, rfl, hstem s.stem_begun⟩
  | sampleProcessing samples => exact ⟨_, rfl, hstem (by simp)⟩
  | swapCompletion strip samples => exact ⟨_, rfl, hstem (by simp)⟩
  | outputProcessing => exact ⟨_, rfl, h.ite fun _ => h.processOutputs⟩
  | referenceEvent position rolling valid => exact ⟨_, rfl, hstem (s.stem_takeReference ..)⟩
  | keepalive unit position => exact ⟨_, rfl, hstem (s.stem_takeReference ..)⟩
  | packingTurn unit => exact ⟨_, rfl, hstem (s.stem_packingTurn unit)⟩
  | drainEnd unit => exact ⟨_, rfl, hstem (s.stem_packingTurn unit)⟩
  | heldEndOffer unit => exact ⟨_, rfl, hstem (s.stem_packingTurn unit)⟩
  | agingEvent => exact ⟨_, rfl, hstem s.stem_restartAging⟩
  | leadLapse group => exact ⟨_, rfl, hstem s.stem_restartAging⟩
  | censusClearing => exact execCensusClearing_anchorsKept h
  | clearingComplete => exact ⟨_, rfl, hstem (s.stem_clearStep 127)⟩
  | refreshWalkTurn => exact execRefreshWalkTurn_anchorsKept h
  | meterEvent => exact execMeterEvent_anchorsKept h
  | scannerVisit => exact ⟨_, rfl, h.ite fun _ => (h.of_stem (s.stem_visit _)).of_stem rfl⟩
  | inputFramingLost port => exact ⟨_, rfl, hstem rfl⟩
  | inputFramingGained port => exact ⟨_, rfl, hstem rfl⟩
  | stripSet source fields => exact ⟨_, rfl, hact source (s.stem_actStripSet ..)⟩
  | place source fields => exact ⟨_, rfl, hact source (s.stem_actPlace ..)⟩
  | muteGroup source group state => exact ⟨_, rfl, hact source (s.stem_actMuteGroup ..)⟩
  | cue source fields => exact ⟨_, rfl, hact source (s.stem_actCue ..)⟩
  | cueFlush source strip => exact ⟨_, rfl, hact source (s.stem_actCueFlush ..)⟩
  | touch source strip touched => exact ⟨_, rfl, hact source (s.stem_actTouch ..)⟩
  | fader source strip level => exact ⟨_, rfl, hact source (s.stem_actFader ..)⟩
  | solo source strip state => exact ⟨_, rfl, hact source (s.stem_actSolo ..)⟩
  | soloOn source strip => exact ⟨_, rfl, hact source (s.stem_soloAnnounced _ _ s.stem_learnKey)⟩
  | soloRefresh source strip => exact ⟨_, rfl, hact source (s.stem_soloAnnounced _ _ s.stem_learnKey)⟩
  | soloOff source strip => exact ⟨_, rfl, hact source (s.stem_soloAnnounced _ _ s.stem_removeKey)⟩
  | censusSweep source => exact ⟨_, rfl, hact source s.stem_restartAging⟩
  | groupClaim source group strip => exact ⟨_, rfl, hact source (s.stem_actGroupClaim ..)⟩
  | groupRelease source group strip => exact ⟨_, rfl, hact source (s.stem_actGroupRelease ..)⟩
  | groupDelta source group strip change => exact ⟨_, rfl, hact source (s.stem_actGroupDelta ..)⟩
  | captureStart source fields => exact ⟨_, rfl, hact source (s.stem_actCaptureStart ..)⟩
  | captureStop source unit => exact ⟨_, rfl, hact source (s.stem_actCaptureStop ..)⟩
  | captureSuspend source unit => exact ⟨_, rfl, hact source (s.stem_actCaptureSuspend ..)⟩
  | captureResume source unit => exact ⟨_, rfl, hact source (s.stem_actCaptureResume ..)⟩
  | captureClear source unit => exact ⟨_, rfl, hact source (s.stem_actCaptureClear ..)⟩
  | outputSet source fields => exact ⟨_, rfl, h.whenActing source (h.actOutputSet source fields)⟩
  | reportControl source fields => exact ⟨_, rfl, hact source rfl⟩
  | queryStrip source object clear => exact ⟨_, rfl, hact source (s.stem_actQueryStrip ..)⟩
  | queryCues source object clear => exact ⟨_, rfl, hact source (s.stem_actQueryCues ..)⟩
  | queryCensus source object clear => exact ⟨_, rfl, hact source (s.stem_actQueryCensus ..)⟩
  | queryGroup source object clear => exact ⟨_, rfl, hact source (s.stem_actQueryGroup ..)⟩
  | queryCapture source object clear => exact ⟨_, rfl, hact source (s.stem_actQueryCapture ..)⟩
  | queryAnchor source object clear => exact ⟨_, rfl, hact source (s.stem_actQueryAnchor ..)⟩
  | queryCounters source object clear => exact ⟨_, rfl, hact source (s.stem_actQueryCounters ..)⟩
  | nodeReset source => exact ⟨_, rfl, h.whenActing source h.nodeReset⟩
  | wordClockEdge edge => exact execWordClockEdge_anchorsKept h edge

end

/-- Settles O59: the commands that touch no anchor and no start state leave `State.stem`, and the others change each anchor by
operations that keep it sound. -/
theorem everyStepKeepsTheAnchorsSound : Obligations.EveryStepKeepsTheAnchorsSound := fun s t h e =>
  t.anchorsKept_iff.mp (step_keeps (fun _ _ h => h.of_stem rfl) (fun _ h c => exec_anchorsKept h c)
    (s.anchorsKept_iff.mpr h) e)

end Sys2Proof.Machine
end

section
/-! O35: CUE and CUE FLUSH. -/

namespace Sys2Proof.Machine

open Sys2Proof

/-! ### The list an offered cue leaves (R108, R109) -/

section
variable {c : Cue} {l : List Cue}

/-- R108: a sorted list with the cue offered holds it, and every cue that stood at another position. -/
theorem mem_insertCue_iff (h : l.Pairwise fun x y => x.position < y.position) (d : Cue) :
    d ∈ insertCue c l ↔ d = c ∨ (d ∈ l ∧ d.position ≠ c.position) := by
  induction l with
  | nil => simp [insertCue]
  | cons a l ih =>
    obtain ⟨ha, hl⟩ := List.pairwise_cons.mp h
    unfold insertCue
    split
    · rename_i hbelow
      have hother : d ∈ a :: l → d.position ≠ c.position := fun hd he => by
        rcases List.mem_cons.mp hd with rfl | hd
        · bv_omega
        · have := ha d hd
          bv_omega
      rw [List.mem_cons, and_iff_left_of_imp hother]
    · split
      · rename_i heq
        have hother : d ∈ l → d.position ≠ c.position := fun hd he => by
          have := ha d hd
          bv_omega
        rw [List.mem_cons, List.mem_cons, or_and_right, and_iff_left_of_imp hother]
        have hhead : ¬(d = a ∧ d.position ≠ c.position) := fun ⟨e, hne⟩ => hne (e ▸ heq.symm)
        rw [or_iff_right hhead]
      · rename_i hne
        have hhead : d = a → d.position ≠ c.position := fun e he => hne (e ▸ he.symm)
        rw [List.mem_cons, ih hl, List.mem_cons, or_and_right, and_iff_left_of_imp hhead]
        exact or_left_comm

theorem hasCueAt_iff (q : Position) (l : List Cue) : hasCueAt q l = true ↔ ∃ d ∈ l, d.position = q := by
  simp [hasCueAt]

/-- R108: a cue at a position of its own makes the list one longer, and one that replaces another does not. -/
theorem length_insertCue (h : l.Pairwise fun x y => x.position < y.position) :
    (insertCue c l).length = if hasCueAt c.position l then l.length else l.length + 1 := by
  induction l with
  | nil => rfl
  | cons a l ih =>
    obtain ⟨ha, hl⟩ := List.pairwise_cons.mp h
    unfold insertCue
    split
    · rename_i hbelow
      rw [if_neg, List.length_cons, List.length_cons]
      rw [hasCueAt_iff]
      rintro ⟨d, hd, he⟩
      rcases List.mem_cons.mp hd with rfl | hd
      · bv_omega
      · have := ha d hd
        bv_omega
    · split
      · rename_i heq
        rw [if_pos ((hasCueAt_iff ..).mpr ⟨a, List.mem_cons_self, heq.symm⟩), List.length_cons, List.length_cons]
      · rename_i hne
        have hhead : hasCueAt c.position (a :: l) = hasCueAt c.position l := by
          rw [hasCueAt, List.any_cons, beq_eq_false_iff_ne.mpr (Ne.symm hne), Bool.false_or, hasCueAt]
        rw [hhead, List.length_cons, ih hl, List.length_cons]
        split <;> rfl

/-- R108: a cue below the last one goes in ahead of it. -/
theorem insertCue_append_of_lt {last : Cue} (h : c.position < last.position) :
    insertCue c (l ++ [last]) = insertCue c l ++ [last] := by
  induction l with
  | nil => simp [insertCue, h]
  | cons a l ih =>
    rw [List.cons_append, insertCue, insertCue, ih]
    split
    · rfl
    · split <;> rfl

/-- R108: a cue above every other goes in last. -/
theorem insertCue_of_above (h : ∀ d ∈ l, d.position < c.position) : insertCue c l = l ++ [c] := by
  induction l with
  | nil => rfl
  | cons a l ih =>
    have ha : a.position < c.position := h a List.mem_cons_self
    rw [insertCue, if_neg (by bv_omega), if_neg (by bv_omega), ih fun d hd => h d (List.mem_cons_of_mem _ hd)]
    rfl

/-- R109: an offer that meets a like position or room loses nothing. -/
theorem offerCue_of_fits (h : CuesInRange l) (hfits : cueOverflows c l = false) : offerCue c l = insertCue c l := by
  refine List.take_of_length_le ?_
  have hlength := h.length
  rw [cueOverflows, Bool.and_eq_false_iff, decide_eq_false_iff_not, Bool.not_eq_false'] at hfits
  rw [length_insertCue h.order]
  split
  · exact hlength
  · rename_i hnone
    exact Nat.not_le.mp (hfits.resolve_right hnone)

/-- R109: the latest of the seventeen is lost: the cue offered, where it is above the whole of a full list. -/
theorem offerCue_full_of_above (hfull : l.length = 16) (h : ∀ d ∈ l, d.position < c.position) : offerCue c l = l := by
  rw [offerCue, insertCue_of_above h, cueLimit, ← hfull, List.take_left]

/-- R109: the latest of the seventeen is lost: the last of a full list, where the cue offered is below it and its position is
new. -/
theorem offerCue_full_of_below {front : List Cue} {last : Cue} (hlength : front.length = 15)
    (horder : front.Pairwise fun x y => x.position < y.position) (hnew : hasCueAt c.position front = false)
    (h : c.position < last.position) : offerCue c (front ++ [last]) = insertCue c front := by
  have hinserted : (insertCue c front).length = 16 := by
    rw [length_insertCue horder, if_neg (Bool.eq_false_iff.mp hnew), hlength]
  rw [offerCue, insertCue_append_of_lt h, cueLimit, ← hinserted, List.take_left]

end

/-! ### The state an offered cue leaves -/

section
variable (n : StripNo) (c : Cue) (s : State)

/-- R109: what an offer latches. -/
theorem State.offerCueTo_of_overflow (h : cueOverflows c (s.cueList n) = true) :
    s.offerCueTo n c = (s.setCues n (offerCue c (s.cueList n))).latch (stripSource n) .cueOverflow := if_pos h

theorem State.offerCueTo_of_fits (h : cueOverflows c (s.cueList n) = false) :
    s.offerCueTo n c = s.setCues n (offerCue c (s.cueList n)) := if_neg (Bool.eq_false_iff.mp h)

/-- An offer reaches the list and, where it overflows, the strip's vector; nothing else. -/
theorem State.offerCueTo_frame : s.offerCueTo n c = { s with
    cues := (s.offerCueTo n c).cues, reports.vectors := (s.offerCueTo n c).reports.vectors } := by
  unfold State.offerCueTo
  dsimp only
  split <;> rfl

theorem State.cueList_offerCueTo (k : StripNo) :
    (s.offerCueTo n c).cueList k = if n = k then offerCue c (s.cueList n) else s.cueList k := by
  unfold State.offerCueTo
  dsimp only
  split
  · rw [State.cueList_latch, State.cueList_setCues]
  · exact State.cueList_setCues ..

theorem State.vector_offerCueTo_ne {src : SourceNo} (h : src ≠ stripSource n) :
    (s.offerCueTo n c).reports.vectors[src] = s.reports.vectors[src] := by
  unfold State.offerCueTo
  dsimp only
  split
  · rw [State.vector_latch, if_neg (Ne.symm h), State.setCues_reports]
  · rfl

end

/-! ### Firing (R110, R112) -/

/-- R112: the record after a cue fires. -/
theorem State.fired_eq (s : State) (c : Cue) (a : Strip) {b : Strip} (hb : b = { a with auto := c.level }) :
    s.fired c a = if b.effective = a.effective then b
      else { b with ramp := a.ramp.retarget (b.target s.census.soloActive s.engine.activeMutes) c.ramp } := by
  subst hb
  rfl

/-- R110: a cue at or below the current position of a rolling transport fires, and is late below it. -/
theorem State.takeCue_fires {s : State} {c : Cue} (n : StripNo) (hrolling : s.clock.rolling = true)
    (hdue : c.position ≤ s.clock.position) : s.takeCue c n =
      if c.position = s.clock.position then s.fireCue n c else (s.fireCue n c).latch (stripSource n) .cueLate := by
  rw [State.takeCue, if_pos hrolling]
  by_cases heq : c.position = s.clock.position
  · rw [if_neg (by bv_omega), if_pos heq, if_pos heq]
  · rw [if_pos (by bv_omega), if_neg heq]

/-- R110: any other cue is offered to the list. -/
theorem State.takeCue_offers {s : State} {c : Cue} (n : StripNo)
    (h : s.clock.rolling = false ∨ s.clock.position < c.position) : s.takeCue c n = s.offerCueTo n c := by
  unfold State.takeCue
  split
  · rename_i hrolling
    have hahead : s.clock.position < c.position := h.resolve_left (by simp [hrolling])
    rw [if_neg (by bv_omega), if_neg (by bv_omega)]
  · rfl

/-! ### The commands -/

section
variable {source : Member} {f : CueFields} {n : StripNo} {s : State}

theorem exec_cue (hacts : s.Acts source) (hstrip : f.strip.toNat = n.val) :
    exec (.cue source f) s = .next (s.takeCue (formCue f) n) := by
  refine congrArg _ ((State.whenActing_of_acts hacts _).trans ?_)
  rw [State.actCue, State.stripCommand, stripOf_eq_some hstrip]

theorem exec_cueFlush (hacts : s.Acts source) {strip : Byte} (hstrip : strip.toNat = n.val) :
    exec (.cueFlush source strip) s = .next (s.setCues n []) := by
  refine congrArg _ ((State.whenActing_of_acts hacts _).trans ?_)
  rw [State.actCueFlush, State.stripsCommand, if_neg (ne_allStrips hstrip), State.stripCommand, stripOf_eq_some hstrip]

end

/-- Settles O35: a cue fires by the record it leaves, or joins the list by the place its position gives it. -/
theorem cueFiresOrJoinsItsListInOrder : Obligations.CueFiresOrJoinsItsListInOrder := by
  intro source f n c s hacts hstrip hc
  have hform : formCue f = c := hc.symm
  have hposition : f.position = c.position := by rw [hc]
  rw [exec_cueFlush hacts hstrip, exec_cue hacts hstrip, hform, hposition]
  refine ⟨rfl, fun hrolling hdue => ?_, fun hahead hsound => ?_⟩
  · rw [State.takeCue_fires n hrolling hdue]
    refine ⟨_, _, _, rfl, rfl, rfl, ?_, fun k hk => ?_, ?_, fun src hsrc => ?_, ?_⟩
    · split <;> rfl
    · rw [apply_ite (State.strip · k), State.strip_latch, ite_self, State.fireCue, State.strip_setStrip_ne _ hk.symm]
    · rw [apply_ite (State.strip · n), State.strip_latch, ite_self, State.fireCue, State.strip_setStrip_same]
      exact State.fired_eq s c _ rfl
    · split
      · rfl
      · rw [State.vector_latch, if_neg hsrc.symm]
        rfl
    · split
      · rfl
      · rw [State.vector_latch, if_pos rfl]
        rfl
  · rw [State.takeCue_offers n hahead]
    obtain ⟨hlength, horder, hrange⟩ := hsound n
    have hlist : CuesInRange (s.cueList n) := ⟨hlength, horder, hrange⟩
    have hin : CuesInRange ((s.offerCueTo n c).cueList n) := by
      rw [State.cueList_offerCueTo, if_pos rfl]
      exact hlist.offerCue (hform ▸ formCue_inRange f)
    refine ⟨_, rfl, State.offerCueTo_frame n c s, fun k hk => ?_, fun src => State.vector_offerCueTo_ne n c s, hin.length, hin.order,
      fun hfits => ?_, fun front last hfront hfifteen hnew => ?_⟩
    · rw [State.cueList_offerCueTo, if_neg hk.symm]
    · have hfits : cueOverflows c (s.cueList n) = false := by
        rw [cueOverflows, Bool.and_eq_false_iff, Bool.not_eq_false', hasCueAt_iff, decide_eq_false_iff_not, Nat.not_le]
        exact hfits.symm
      rw [State.offerCueTo_of_fits n c s hfits]
      refine ⟨rfl, fun d => ?_⟩
      rw [State.cueList_setCues, if_pos rfl, offerCue_of_fits hlist hfits, mem_insertCue_iff horder]
    · have hnone : hasCueAt c.position (s.cueList n) = false := by
        rw [Bool.eq_false_iff, Ne, hasCueAt_iff]
        rintro ⟨d, hd, he⟩
        exact hnew d hd he
      have hfull : (s.cueList n).length = 16 := by rw [hfront, List.length_append, hfifteen]; rfl
      have hover : cueOverflows c (s.cueList n) = true := by rw [cueOverflows, hnone, hfull]; rfl
      rw [hfront] at horder hnew hnone
      obtain ⟨hbefore, -, hlast⟩ := List.pairwise_append.mp horder
      refine ⟨?_, fun habove => ?_, fun hbelow d => ?_⟩
      · rw [State.offerCueTo_of_overflow n c s hover, State.vector_latch, if_pos rfl]
        rfl
      · rw [State.cueList_offerCueTo, if_pos rfl, offerCue_full_of_above hfull]
        intro d hd
        rw [hfront] at hd
        rcases List.mem_append.mp hd with hd | hd
        · exact BitVec.lt_trans (hlast d hd last List.mem_cons_self) habove
        · exact List.mem_singleton.mp hd ▸ habove
      · rw [hasCueAt, List.any_append, Bool.or_eq_false_iff] at hnone
        rw [State.cueList_offerCueTo, if_pos rfl, hfront, offerCue_full_of_below hfifteen hbefore hnone.1 hbelow,
          mem_insertCue_iff hbefore, and_iff_left_of_imp fun hd => hnew d (List.mem_append_left _ hd)]

end Sys2Proof.Machine
end

section
/-! O36: touch and release edges. -/

namespace Sys2Proof.Machine

open Sys2Proof

/-! ### The records an edge leaves (R102, R103) -/

/-- R102: the touch copy and the latch of a strip that was not touched. -/
theorem Strip.touchEdge_eq {a : Strip} (rolling : Bool) (h : a.touched = false) : a.touchEdge rolling = { a with
    touched := true
    live := if a.mode = .touch ∨ (a.mode = .latch ∧ a.latched = false) then a.auto else a.live
    latched := a.latched || (decide (a.mode = .latch) && rolling) } := by
  cases hmode : a.mode <;> cases hlatched : a.latched <;> cases rolling <;>
    simp [Strip.touchEdge, Strip.liveInForce, hmode, hlatched, h]

/-- R103: the record after a release edge: the target is recomputed over the glide where the effective fader changes. -/
def State.releasedStrip (s : State) (a : Strip) : Strip := { a with
  touched := false
  ramp := if ({ a with touched := false } : Strip).effective = a.effective then a.ramp
    else a.ramp.retarget (({ a with touched := false } : Strip).target s.census.soloActive s.engine.activeMutes) a.glide }

theorem State.setStripEffective_released (n : StripNo) (s : State) :
    s.setStripEffective n (s.strip n).glide { s.strip n with touched := false } =
      s.setStrip n (s.releasedStrip (s.strip n)) := by
  rw [State.setStripEffective, State.releasedStrip]
  split <;> rfl

/-! ### What an edge does to a capture unit (R152) -/

section
variable (n : StripNo) (mark : Byte) (s : State)

/-- An edge reaches the units alone. -/
theorem State.captureEdge_frame : s.captureEdge n mark = { s with units := (s.captureEdge n mark).units } := by
  unfold State.captureEdge
  split
  · split <;> rfl
  · rfl

@[simp] theorem State.captureEdge_groups : (s.captureEdge n mark).groups = s.groups := by rw [State.captureEdge_frame]
@[simp] theorem State.captureEdge_message : (s.captureEdge n mark).message = s.message := by rw [State.captureEdge_frame]
@[simp] theorem State.captureEdge_reports : (s.captureEdge n mark).reports = s.reports := by rw [State.captureEdge_frame]
@[simp] theorem State.group_captureEdge (g : GroupNo) : (s.captureEdge n mark).group g = s.group g := by
  rw [State.group, State.captureEdge_groups]
  rfl
@[simp] theorem State.strip_captureEdge (k : StripNo) : (s.captureEdge n mark).strip k = s.strip k := by
  rw [State.captureEdge_frame]
  rfl

/-- R152: the unit bound to the strip takes the mark while it is WRITING. -/
theorem State.captureUnit_captureEdge (u : UnitNo) : (s.captureEdge n mark).captureUnit u =
    if (s.strip n).binding = some u ∧ (s.captureUnit u).state = .writing then
      { s.captureUnit u with marks := (s.captureUnit u).marks ||| mark }
    else s.captureUnit u := by
  unfold State.captureEdge
  split
  · rename_i v hbound
    rw [hbound]
    by_cases hv : v = u
    · subst hv
      by_cases hwriting : (s.captureUnit v).state = .writing
      · rw [if_pos hwriting, if_pos ⟨rfl, hwriting⟩, State.captureUnit_setUnit_same]
      · rw [if_neg hwriting, if_neg fun h => hwriting h.2]
    · have hother : ¬(some v = some u ∧ (s.captureUnit u).state = .writing) := fun h => hv (Option.some.inj h.1)
      rw [if_neg hother]
      split
      · rw [State.captureUnit_setUnit, if_neg hv]
      · rfl
  · rename_i hfree
    rw [hfree, if_neg fun h => nomatch h.1]

end

/-! ### What an edge does to the Group Table (R136, R138) -/

/-- `x` is `s` but for what the Group Table's work reaches: its entries, the queue and what a dropped offer leaves. -/
structure State.GroupWork (s x : State) : Prop where
  frame : x = { s with
    groups := x.groups
    message.outbound := x.message.outbound
    message.counters.outboundDrop := x.message.counters.outboundDrop
    reports.vectors := x.reports.vectors }

section
variable (n : StripNo) (s : State)

theorem State.groupTouch_groupWork : s.GroupWork (s.groupTouch n) where
  frame := by
    unfold State.groupTouch
    split
    · split
      · rw [State.takeLead, State.announce, State.offer_eq]
        rfl
      · rfl
    · rfl

theorem State.releaseIfLead_groupWork (group : Option GroupNo) : s.GroupWork (s.releaseIfLead group n) where
  frame := by
    obtain ⟨_, _, _, _, h⟩ := s.releaseIfLead_cases group n
    rw [h]

theorem State.GroupWork.ite {x : State} {p : Prop} [Decidable p] (h : s.GroupWork x) : s.GroupWork (if p then s else x) := by
  split
  · exact ⟨rfl⟩
  · exact h

end

/-- The frame that an edge on strip `n` keeps, and what it leaves of the strips and units, `b` being the strip's new record. -/
structure State.Edged (s t : State) (n : StripNo) (b : Strip) (mark : Byte) : Prop where
  frame : t = { s with
    engine.strips := t.engine.strips
    groups := t.groups
    units := t.units
    message.outbound := t.message.outbound
    message.counters.outboundDrop := t.message.counters.outboundDrop
    reports.vectors := t.reports.vectors }
  strip : t.strip n = b
  others : ∀ k : StripNo, k ≠ n → t.strip k = s.strip k
  units : ∀ u : UnitNo, t.captureUnit u = if (s.strip n).binding = some u ∧ (s.captureUnit u).state = .writing then
      { s.captureUnit u with marks := (s.captureUnit u).marks ||| mark }
    else s.captureUnit u

/-- R102, R103: an edge is the strip's new record, then the Group Table's work, then a bound unit's mark. -/
theorem State.GroupWork.edged {s x : State} {n : StripNo} {b : Strip} (h : (s.setStrip n b).GroupWork x)
    (hbinding : b.binding = (s.strip n).binding) (mark : Byte) : s.Edged (x.captureEdge n mark) n b mark := by
  have hstrip (k : StripNo) : x.strip k = if n = k then b else s.strip k := by
    rw [← State.strip_setStrip, h.frame]
    rfl
  have hunit (u : UnitNo) : x.captureUnit u = s.captureUnit u := by
    rw [h.frame]
    rfl
  refine ⟨?_, ?_, fun k hk => ?_, fun u => ?_⟩
  · rw [State.captureEdge_frame, h.frame]
    rfl
  · rw [State.strip_captureEdge, hstrip, if_pos rfl]
  · rw [State.strip_captureEdge, hstrip, if_neg hk.symm]
  · rw [State.captureUnit_captureEdge, hstrip, if_pos rfl, hbinding, hunit]

/-! ### A claim at a touch edge (R136) -/

section
variable {n : StripNo} {g : GroupNo} {s : State}

theorem State.groupTouch_of_no_group (h : (s.strip n).linkGroup = none) : s.groupTouch n = s := by
  rw [State.groupTouch, h]

theorem State.groupTouch_of_lead (hgroup : (s.strip n).linkGroup = some g) (hlead : (s.group g).lead ≠ none) :
    s.groupTouch n = s := by
  rw [State.groupTouch, hgroup]
  exact if_neg (by rwa [Option.isNone_iff_eq_none])

theorem State.groupTouch_of_free (hgroup : (s.strip n).linkGroup = some g) (hlead : (s.group g).lead = none) :
    s.groupTouch n = s.takeLead g n := by
  rw [State.groupTouch, hgroup]
  exact if_pos (by rw [hlead]; rfl)

/-- A touch edge reaches no group but the strip's own. -/
theorem State.group_groupTouch_ne {h : GroupNo} (hgroup : (s.strip n).linkGroup = some g) (hne : h ≠ g) :
    (s.groupTouch n).group h = s.group h := by
  by_cases hlead : (s.group g).lead = none
  · rw [State.groupTouch_of_free hgroup hlead, State.takeLead, State.group_announce, State.group_setGroup, if_neg hne.symm]
  · rw [State.groupTouch_of_lead hgroup hlead]

end

/-! ### A release at a release edge (R138) -/

theorem State.offer_setStrip (m : OutMsg) (n : StripNo) (b : Strip) (s : State) :
    (s.setStrip n b).offer m = (s.offer m).setStrip n b := by
  unfold State.offer
  rw [State.setStrip_message]
  split
  · rfl
  · split <;> rfl

/-- A hand-on takes the waiters from the records, and writes none. -/
theorem State.handOn_setStrip {g : GroupNo} {n : StripNo} {b : Strip} {s : State}
    (h : ∀ k : StripNo, (s.setStrip n b).isWaiter g k = s.isWaiter g k) :
    (s.setStrip n b).handOn g = (s.handOn g).setStrip n b := by
  have hfirst : (s.setStrip n b).firstWaiter g = s.firstWaiter g := congrArg allStrips.find? (funext h)
  unfold State.handOn
  rw [hfirst]
  split
  · exact State.offer_setStrip _ n b (s.setGroup g _)
  · rfl

/-- A record that does not wait is as good as another that does not, for the release of its lead. -/
theorem State.releaseLead_setStrip {g : GroupNo} {n : StripNo} {a b : Strip} (s : State)
    (ha : a.mode = .read ∨ a.touched = false) (hb : b.mode = .read ∨ b.touched = false) :
    (s.setStrip n b).releaseLead g n = ((s.setStrip n a).releaseLead g n).setStrip n b := by
  have hrest {c : Strip} (hc : c.mode = .read ∨ c.touched = false) (x : State) :
      (x.setStrip n c).isWaiter g n = false := by
    rw [State.isWaiter, State.strip_setStrip_same]
    rcases hc with h | h <;> simp [h]
  rw [State.releaseLead, State.releaseLead, ← State.handOn_setStrip]
  · congr 1
    rw [State.announce, State.announce, ← State.offer_setStrip]
    congr 1
    exact (State.setStrip_setStrip n a b (s.setGroup g { (s.group g).cleared with mark := false })).symm
  · intro k
    have hwritten : (s.setStrip n a).setGroup g { ((s.setStrip n a).group g).cleared with mark := false } =
        (s.setGroup g { (s.group g).cleared with mark := false }).setStrip n a := rfl
    rw [State.announce, hwritten, State.offer_setStrip, State.setStrip_setStrip]
    by_cases hk : k = n
    · rw [hk, hrest hb, hrest ha]
    · refine State.isWaiter_congr ?_ rfl
      rw [State.strip_setStrip_ne _ (Ne.symm hk), State.strip_setStrip_ne _ (Ne.symm hk)]

/-- R103, R138: the release of a lead whose strip is no longer touched. -/
theorem State.releaseLead_released_of_untouched {s : State} {g : GroupNo} {n : StripNo} {b : Strip}
    (hleads : s.leads g n = true) (hb : b.touched = false) : s.Released ((s.setStrip n b).releaseLead g n) g n := by
  have hread := State.releaseLead_released (b := { b with mode := .read }) hleads (.inr rfl)
  rw [State.releaseLead_setStrip (a := { b with mode := .read }) s (.inl rfl) (.inr hb)]
  exact ⟨hread.others, hread.unclaimed, hread.claimed⟩

/-! ### The command -/

section
variable {n : StripNo} {s : State}

theorem exec_touch {source : Member} {strip touched : Byte} (hacts : s.Acts source) (hstrip : strip.toNat = n.val) :
    exec (.touch source strip touched) s = .next (if yes touched then s.touchOn n else s.touchOff n) := by
  refine congrArg _ ((State.whenActing_of_acts hacts _).trans ?_)
  rw [State.actTouch, State.stripCommand, stripOf_eq_some hstrip]

theorem yes_iff {b : Byte} : yes b = true ↔ b ≠ 0#8 := bne_iff_ne

/-- A repeated touch or release changes nothing. -/
theorem touch_repeated {touched : Byte} (h : touched ≠ 0#8 ↔ (s.strip n).touched = true) :
    (if yes touched then s.touchOn n else s.touchOff n) = s := by
  rw [← yes_iff] at h
  by_cases hyes : yes touched = true
  · rw [if_pos hyes, State.touchOn, if_pos (h.mp hyes)]
  · rw [if_neg hyes, State.touchOff, if_neg fun ht => hyes (h.mpr ht)]

/-- A TOUCH that is no repetition is the edge that the strip's record leaves open. -/
theorem touch_edge {touched : Byte} (h : ¬(touched ≠ 0#8 ↔ (s.strip n).touched = true)) :
    (if yes touched then s.touchOn n else s.touchOff n) =
      if (s.strip n).touched then s.touchOff n else s.touchOn n := by
  rw [← yes_iff] at h
  by_cases ht : (s.strip n).touched = true
  · have hno : ¬yes touched = true := fun hyes => h (iff_of_true hyes ht)
    rw [if_neg hno, if_pos ht]
  · have hyes : yes touched = true := by_contra fun hno => h (iff_of_false hno ht)
    rw [if_pos hyes, if_neg ht]

/-- R102: a touch edge, by what the Group Table makes of it. -/
theorem State.touchOn_edge (h : (s.strip n).touched = false) : s.touchOn n =
    (if (s.strip n).mode = .read then s.setStrip n ((s.strip n).touchEdge s.clock.rolling)
      else (s.setStrip n ((s.strip n).touchEdge s.clock.rolling)).groupTouch n).captureEdge n 0x02#8 :=
  if_neg (Bool.eq_false_iff.mp h)

/-- R103: a release edge, by what the Group Table makes of it. -/
theorem State.touchOff_edge (h : (s.strip n).touched = true) : s.touchOff n =
    (if (s.strip n).mode = .read then s.setStrip n (s.releasedStrip (s.strip n))
      else (s.setStrip n (s.releasedStrip (s.strip n))).releaseIfLead (s.strip n).linkGroup n).captureEdge n 0x04#8 := by
  rw [State.touchOff, if_pos h, State.setStripEffective_released]
  rfl

end

/-- What an edge on a strip of record `a`, touched or not before it, leaves of the groups, the queue and the vectors. -/
structure State.EdgeHanded (s t : State) (n : StripNo) (a : Strip) : Prop where
  rests : a.mode = .read ∨ a.linkGroup = none ∨ (a.touched = true ∧ ∀ g : GroupNo, s.leads g n = false) →
    t.groups = s.groups ∧ t.message = s.message ∧ t.reports = s.reports
  others : ∀ g : GroupNo, a.mode ≠ .read → a.linkGroup = some g → ∀ h : GroupNo, h ≠ g → t.group h = s.group h
  claims : ∀ g : GroupNo, a.mode ≠ .read → a.linkGroup = some g → a.touched = false → (s.group g).lead = none →
    t.group g = { s.group g with lead := some { member := s.clock.member, strip := n }, silent := 0 } ∧
    t.message = (s.announce (.claim g n)).message
  led : ∀ g : GroupNo, a.mode ≠ .read → a.linkGroup = some g → a.touched = false → (s.group g).lead ≠ none →
    t.groups = s.groups ∧ t.message = s.message
  releases : ∀ g : GroupNo, a.mode ≠ .read → a.linkGroup = some g → a.touched = true → s.leads g n = true →
    s.Released t g n

section
variable {n : StripNo} {s : State}

theorem State.touchOn_handed (h : (s.strip n).touched = false) : s.EdgeHanded (s.touchOn n) n (s.strip n) := by
  rw [State.touchOn_edge h]
  generalize hb : (s.strip n).touchEdge s.clock.rolling = b
  have hlink : ((s.setStrip n b).strip n).linkGroup = (s.strip n).linkGroup := by
    rw [State.strip_setStrip_same, ← hb]
    rfl
  have htouched : ¬(s.strip n).touched = true := Bool.eq_false_iff.mp h
  refine ⟨fun hrests => ?_, fun g hmode hgroup k hk => ?_, fun g hmode hgroup _ hlead => ?_, fun g hmode hgroup _ hlead => ?_,
    fun g _ _ ht _ => absurd ht htouched⟩
  · rw [State.captureEdge_groups, State.captureEdge_message, State.captureEdge_reports]
    rcases hrests with hread | hnone | ⟨ht, -⟩
    · rw [if_pos hread]
      exact ⟨rfl, rfl, rfl⟩
    · rw [State.groupTouch_of_no_group (hlink.trans hnone), ite_self]
      exact ⟨rfl, rfl, rfl⟩
    · exact absurd ht htouched
  · rw [if_neg hmode, State.group_captureEdge, State.group_groupTouch_ne (hlink.trans hgroup) hk, State.group_setStrip]
  · rw [if_neg hmode, State.group_captureEdge, State.captureEdge_message,
      State.groupTouch_of_free (hlink.trans hgroup) hlead, State.takeLead]
    exact ⟨(State.group_announce ..).trans (State.group_setGroup_same ..), State.offer_message_congr _ rfl⟩
  · rw [if_neg hmode, State.captureEdge_groups, State.captureEdge_message,
      State.groupTouch_of_lead (hlink.trans hgroup) hlead]
    exact ⟨rfl, rfl⟩

theorem State.touchOff_handed (h : (s.strip n).touched = true) : s.EdgeHanded (s.touchOff n) n (s.strip n) := by
  rw [State.touchOff_edge h]
  have huntouched : (s.releasedStrip (s.strip n)).touched = false := rfl
  generalize s.releasedStrip (s.strip n) = b at huntouched ⊢
  have htouched : (s.strip n).touched ≠ false := by simp [h]
  refine ⟨fun hrests => ?_, fun g hmode hgroup k hk => ?_, fun g _ _ ht _ => absurd ht htouched,
    fun g _ _ ht _ => absurd ht htouched, fun g hmode hgroup _ hleads => ?_⟩
  · rw [State.captureEdge_groups, State.captureEdge_message, State.captureEdge_reports]
    rcases hrests with hread | hnone | ⟨-, hnot⟩
    · rw [if_pos hread]
      exact ⟨rfl, rfl, rfl⟩
    · rw [hnone, State.releaseIfLead_of_not_lead (by simp), ite_self]
      exact ⟨rfl, rfl, rfl⟩
    · rw [State.releaseIfLead_of_not_lead (s := s.setStrip n b) fun g _ => hnot g, ite_self]
      exact ⟨rfl, rfl, rfl⟩
  · rw [if_neg hmode, hgroup, State.group_captureEdge]
    cases hleads : s.leads g n with
    | true =>
      rw [State.releaseIfLead_of_leads (s := s.setStrip n b) hleads]
      exact (State.releaseLead_released_of_untouched hleads huntouched).others k hk
    | false =>
      rw [State.releaseIfLead_of_not_lead (s := s.setStrip n b) (by rintro _ ⟨⟩; exact hleads), State.group_setStrip]
  · have hreleased := State.releaseLead_released_of_untouched hleads huntouched
    rw [if_neg hmode, hgroup, State.releaseIfLead_of_leads (s := s.setStrip n b) hleads]
    constructor
    · simpa only [State.group_captureEdge] using hreleased.others
    · simpa only [State.group_captureEdge, State.captureEdge_message, State.captureEdge_reports] using hreleased.unclaimed
    · simpa only [State.group_captureEdge, State.captureEdge_message, State.captureEdge_reports] using hreleased.claimed

theorem State.touchOn_edged (h : (s.strip n).touched = false) :
    s.Edged (s.touchOn n) n ((s.strip n).touchEdge s.clock.rolling) 0x02#8 := by
  rw [State.touchOn_edge h]
  have hbinding : ((s.strip n).touchEdge s.clock.rolling).binding = (s.strip n).binding := rfl
  exact ((State.groupTouch_groupWork ..).ite _).edged hbinding _

theorem State.touchOff_edged (h : (s.strip n).touched = true) :
    s.Edged (s.touchOff n) n (s.releasedStrip (s.strip n)) 0x04#8 := by
  rw [State.touchOff_edge h]
  have hbinding : (s.releasedStrip (s.strip n)).binding = (s.strip n).binding := rfl
  exact ((State.releaseIfLead_groupWork ..).ite _).edged hbinding _

end

/-- Settles O36, by the two edges: what each leaves of the strips and units, and what the Group Table makes of it. -/
theorem touchAndReleaseEdges : Obligations.TouchAndReleaseEdges := by
  rintro source strip touched n a s hacts hstrip rfl
  rw [exec_touch hacts hstrip]
  refine ⟨fun hrepeat => by rw [touch_repeated hrepeat], fun hedge => ?_⟩
  rw [touch_edge hedge]
  cases ht : (s.strip n).touched with
  | true =>
    have hedged := State.touchOff_edged ht
    have hhanded := State.touchOff_handed ht
    refine ⟨s.touchOff n, _, rfl, hedged.strip.symm, hedged.frame, hedged.others, nofun, fun _ => rfl, ?_,
      fun g hmode hgroup => ⟨hhanded.others g hmode hgroup, nofun, nofun, fun _ hleads => ?_⟩, ?_⟩
    · exact ht ▸ hhanded.rests
    · have hreleased := hhanded.releases g hmode hgroup ht hleads
      refine ⟨fun hnone => ?_, fun k hk hwaits hlow => ?_⟩
      · obtain ⟨hentry, hmessage, -⟩ := hreleased.unclaimed hnone _ rfl
        exact ⟨hentry, hmessage⟩
      · obtain ⟨hentry, hmessage, -⟩ := hreleased.claimed k hk hwaits hlow _ rfl
        exact ⟨hentry, hmessage⟩
    · rintro u c rfl
      exact hedged.units u
  | false =>
    have hedged := State.touchOn_edged ht
    have hhanded := State.touchOn_handed ht
    refine ⟨s.touchOn n, _, rfl, hedged.strip.symm, hedged.frame, hedged.others,
      fun _ => ⟨Strip.touchEdge_eq _ ht, Strip.touchEdge_effective _ ht⟩, nofun, ?_,
      fun g hmode hgroup => ⟨hhanded.others g hmode hgroup, fun _ => hhanded.claims g hmode hgroup ht,
        fun _ => hhanded.led g hmode hgroup ht, nofun⟩, ?_⟩
    · exact ht ▸ hhanded.rests
    · rintro u c rfl
      exact hedged.units u

end Sys2Proof.Machine
end


section
/-! O46: what a capture unit makes of the transport's events. -/

namespace Sys2Proof.Machine

open Sys2Proof

/-! ### Records and endings (R151, R153, R155) -/

theorem CaptureUnit.formRecord_eq (q : Position) (level : Int) (flags : Byte) (period : Nat) (c : CaptureUnit) :
    c.formRecord q level flags period = { c with
      lastLevel := some level, lastPosition := some q, keepalive := 0, marks := 0#8
      buffer := if c.buffer.length < 16 then
          c.buffer ++ [{ position := q, level, flags := c.marks ||| flags, formed := period }]
        else c.buffer
      overruns := if c.buffer.length < 16 then c.overruns else min 65535 (c.overruns + 1)
      conditions := if c.buffer.length < 16 then c.conditions else c.conditions ||| 0x40#8 } := by
  by_cases hroom : c.buffer.length < 16
  · simp only [if_pos hroom]
    exact if_pos hroom
  · simp only [if_neg hroom]
    exact if_neg hroom

/-- R155: a unit after an ending with a FINAL record. -/
def CaptureUnit.finished (q : Position) (level : Int) (flags condition : Byte) (period : Nat) (c : CaptureUnit) : CaptureUnit :=
  { c.formRecord q level (flags ||| flagFinal) period with
    conditions := (c.formRecord q level (flags ||| flagFinal) period).conditions ||| condition
    state := .draining
    bound := none }

/-- R151: the keepalive count raised by a sampling. -/
def CaptureUnit.counted (c : CaptureUnit) : CaptureUnit := { c with keepalive := holdAt 4800 (c.keepalive + 1) }

/-- R151: when a sampling of a level below punch-out calls for a record: the first one, a level moved by the threshold, marks that
wait, or the count that reaches 4800. -/
abbrev CaptureUnit.CallsForRecord (level : Int) (c : CaptureUnit) : Prop :=
  c.lastLevel = none ∨ (∃ last, c.lastLevel = some last ∧ level ≠ last ∧ c.settings.threshold ≤ (level - last).natAbs) ∨
    c.marks ≠ 0#8 ∨ 4799 ≤ c.keepalive

/-- R151, R155: a unit in WRITING after one sampling of a level. -/
def CaptureUnit.sampled (q : Position) (level : Int) (period : Nat) (c : CaptureUnit) : CaptureUnit :=
  if c.settings.punchOut ≤ q then c.finished q level (c.lateFlag q) condComplete period
  else if c.counted.recordDue q level then c.formRecord q level (c.lateFlag q) period
  else c.counted

/-- R150, R151, R155: a unit after a rolling position event that follows on. -/
def CaptureUnit.atPosition (q : Position) (level : Int) (period : Nat) (c : CaptureUnit) : CaptureUnit :=
  match c.state with
  | .armed => if c.settings.punchIn ≤ q then { c with state := .writing }.sampled q level period else c
  | .writing => c.sampled q level period
  | .suspended => if c.settings.punchOut ≤ q then c.finished q level 0#8 condComplete period else c
  | .idle | .draining | .ended => c

/-- R155: a unit after a park or a discontinuity. -/
def CaptureUnit.atEnd (q : Position) (condition : Byte) (level : Int) (period : Nat) (c : CaptureUnit) : CaptureUnit :=
  match c.state with
  | .writing | .suspended => c.finished q level 0#8 condition period
  | .idle | .armed | .draining | .ended => c

/-- A record resets the count, so that it is the same of a unit whose count was raised. -/
theorem CaptureUnit.formRecord_counted (q : Position) (level : Int) (flags : Byte) (period : Nat) (c : CaptureUnit) :
    c.counted.formRecord q level flags period = c.formRecord q level flags period := by
  rw [CaptureUnit.formRecord_eq, CaptureUnit.formRecord_eq]
  rfl

theorem CaptureUnit.finished_counted (q : Position) (level : Int) (flags condition : Byte) (period : Nat) (c : CaptureUnit) :
    c.counted.finished q level flags condition period = c.finished q level flags condition period := by
  rw [CaptureUnit.finished, CaptureUnit.formRecord_counted, CaptureUnit.finished]

/-- R155: an ending that adds no flag but FINAL. -/
theorem CaptureUnit.finished_plain (q : Position) (level : Int) (condition : Byte) (period : Nat) (c : CaptureUnit) :
    c.finished q level 0#8 condition period = { c.formRecord q level 0x01#8 period with
      state := .draining, bound := none
      conditions := (c.formRecord q level 0x01#8 period).conditions ||| condition } := rfl

/-! ### One sampling (R150, R151) -/

section
variable {q : Position} {level : Int} {period : Nat} {c : CaptureUnit}

theorem CaptureUnit.lateFlag_eq (q : Position) (c : CaptureUnit) :
    c.lateFlag q = if c.lastLevel = none ∧ c.settings.punchIn < q then 0x08#8 else 0#8 := by
  simp only [CaptureUnit.lateFlag, Option.isNone_iff_eq_none, flagLate]

theorem CaptureUnit.recordDue_counted (hbelow : q < c.settings.punchOut) : c.counted.recordDue q level = true ↔
    c.CallsForRecord level := by
  have hcount : 4800 ≤ holdAt 4800 (c.keepalive + 1) ↔ 4799 ≤ c.keepalive := by
    rw [holdAt]
    omega
  have hout : ¬c.settings.punchOut ≤ q := by bv_omega
  cases hlast : c.lastLevel <;>
    simp [CaptureUnit.recordDue, CaptureUnit.counted, CaptureUnit.CallsForRecord, hlast, hcount, hout, or_assoc]

theorem CaptureUnit.sampled_of_out (h : c.settings.punchOut ≤ q) : c.sampled q level period =
    { c.formRecord q level (c.lateFlag q ||| 0x01#8) period with
      state := .draining, bound := none
      conditions := (c.formRecord q level (c.lateFlag q ||| 0x01#8) period).conditions ||| 0x01#8 } := if_pos h

theorem CaptureUnit.sampled_of_due (hbelow : q < c.settings.punchOut) (hdue : c.CallsForRecord level) :
    c.sampled q level period = c.formRecord q level (c.lateFlag q) period := by
  rw [CaptureUnit.sampled, if_neg (by bv_omega), if_pos ((CaptureUnit.recordDue_counted hbelow).mpr hdue)]

theorem CaptureUnit.sampled_of_quiet (hbelow : q < c.settings.punchOut) {last : Int} (hlast : c.lastLevel = some last)
    (hlevel : level = last ∨ (level - last).natAbs < c.settings.threshold) (hmarks : c.marks = 0#8)
    (hcount : c.keepalive < 4799) : c.sampled q level period = { c with keepalive := c.keepalive + 1 } := by
  have hrest : ¬c.counted.recordDue q level = true := by
    rw [CaptureUnit.recordDue_counted hbelow]
    rintro (hnone | ⟨x, hx, hne, hmoved⟩ | hmark | hkeep)
    · exact nomatch hlast.symm.trans hnone
    · cases hlast.symm.trans hx
      exact hlevel.elim hne (Nat.not_lt.mpr hmoved)
    · exact hmark hmarks
    · omega
  have hheld : holdAt 4800 (c.keepalive + 1) = c.keepalive + 1 := by
    rw [holdAt]
    omega
  rw [CaptureUnit.sampled, if_neg (by bv_omega), if_neg hrest, CaptureUnit.counted, hheld]

/-- R150: a unit that samples a position: one in WRITING, and an ARMED one at or above punch-in. -/
theorem CaptureUnit.atPosition_of_samples (h : c.state = .writing ∨ (c.state = .armed ∧ c.settings.punchIn ≤ q)) :
    c.atPosition q level period = ({ c with state := .writing } : CaptureUnit).sampled q level period := by
  rcases h with hstate | ⟨hstate, hin⟩
  · simp only [CaptureUnit.atPosition, hstate]
    rw [← hstate]
  · simp only [CaptureUnit.atPosition, hstate, if_pos hin]

theorem CaptureUnit.formRecord_writing (flags : Byte) :
    ({ c with state := .writing } : CaptureUnit).formRecord q level flags period =
      { c.formRecord q level flags period with state := .writing } := by
  rw [CaptureUnit.formRecord_eq, CaptureUnit.formRecord_eq]

/-- R155: a unit that samples at or above punch-out ends with COMPLETE. -/
theorem CaptureUnit.atPosition_of_out (h : c.state = .writing ∨ (c.state = .armed ∧ c.settings.punchIn ≤ q))
    (hout : c.settings.punchOut ≤ q) : c.atPosition q level period =
      { c.formRecord q level (c.lateFlag q ||| 0x01#8) period with
        state := .draining, bound := none
        conditions := (c.formRecord q level (c.lateFlag q ||| 0x01#8) period).conditions ||| 0x01#8 } := by
  rw [CaptureUnit.atPosition_of_samples h, CaptureUnit.sampled_of_out (c := { c with state := .writing }) hout,
    CaptureUnit.formRecord_writing]
  rfl

/-- R151: a unit whose sampling below punch-out calls for a record. -/
theorem CaptureUnit.atPosition_of_due (h : c.state = .writing ∨ (c.state = .armed ∧ c.settings.punchIn ≤ q))
    (hbelow : q < c.settings.punchOut)
    (hdue : c.CallsForRecord level) :
    c.atPosition q level period = { c.formRecord q level (c.lateFlag q) period with state := .writing } := by
  rw [CaptureUnit.atPosition_of_samples h,
    CaptureUnit.sampled_of_due (c := { c with state := .writing }) hbelow hdue, CaptureUnit.formRecord_writing]
  rfl

/-- R151: a unit whose sampling calls for none only counts. -/
theorem CaptureUnit.atPosition_of_quiet (h : c.state = .writing ∨ (c.state = .armed ∧ c.settings.punchIn ≤ q))
    (hbelow : q < c.settings.punchOut) {last : Int} (hlast : c.lastLevel = some last)
    (hlevel : level = last ∨ (level - last).natAbs < c.settings.threshold) (hmarks : c.marks = 0#8)
    (hcount : c.keepalive < 4799) :
    c.atPosition q level period = { c with state := .writing, keepalive := c.keepalive + 1 } := by
  rw [CaptureUnit.atPosition_of_samples h,
    CaptureUnit.sampled_of_quiet (c := { c with state := .writing }) hbelow hlast hlevel hmarks hcount]

end

/-! ### The four units under one event -/

/-- `b` is the record `a` but for its binding. -/
def Strip.Rebinds (a b : Strip) : Prop := b = { a with binding := b.binding }

theorem Strip.Rebinds.refl (a : Strip) : a.Rebinds a := rfl

theorem Strip.Rebinds.of_eq {a b : Strip} {binding : Option UnitNo} (h : b = { a with binding }) : a.Rebinds b := by
  subst h
  rfl

theorem Strip.Rebinds.trans {a b c : Strip} (hab : a.Rebinds b) (hbc : b.Rebinds c) : a.Rebinds c := by
  rw [hab] at hbc
  exact hbc

theorem Strip.Rebinds.effective {a b : Strip} (h : a.Rebinds b) : b.effective = a.effective := by
  rw [h]
  rfl

/-- `t` is `s` with the units of `c`, and some strips bound otherwise. -/
structure State.UnitsBecome (s t : State) (c : UnitNo → CaptureUnit) : Prop where
  frame : t = { s with units := t.units, engine.strips := t.engine.strips }
  strip : ∀ n : StripNo, (s.strip n).Rebinds (t.strip n)
  unit : ∀ u : UnitNo, t.captureUnit u = c u

section
variable (u : UnitNo) (s : State)

theorem State.UnitsBecome.refl : s.UnitsBecome s s.captureUnit := ⟨rfl, fun _ => .refl _, fun _ => rfl⟩

theorem State.UnitsBecome.setUnit (c : CaptureUnit) :
    s.UnitsBecome (s.setUnit u c) fun v => if u = v then c else s.captureUnit v :=
  ⟨rfl, fun _ => .refl _, fun v => s.captureUnit_setUnit u v c⟩

/-- The level a unit records goes by the effective faders. -/
theorem State.boundLevel_congr {s t : State} (h : ∀ n : StripNo, (t.strip n).effective = (s.strip n).effective)
    (c : CaptureUnit) : t.boundLevel c = s.boundLevel c := by
  unfold State.boundLevel
  split
  · exact h _
  · rfl

theorem State.boundLevel_of_bound {c : CaptureUnit} {n : StripNo} (h : c.bound = some n) :
    s.boundLevel c = (s.strip n).effective := by rw [State.boundLevel, h]

/-- R155: an ending reaches its unit, and the strip it was bound to. -/
theorem State.finish_becomes (q : Position) (flags condition : Byte) : s.UnitsBecome (s.finish u q flags condition) fun v =>
    if u = v then (s.captureUnit u).finished q (s.boundLevel (s.captureUnit u)) flags condition s.clock.period
    else s.captureUnit v := by
  unfold State.finish
  dsimp only
  generalize hended : ({ (s.captureUnit u).formRecord q _ _ _ with conditions := _, state := _ } : CaptureUnit) = e
  refine ⟨?_, fun n => ?_, fun v => ?_⟩
  · rw [State.releaseBinding_eq]
    rfl
  · rw [State.strip_releaseBinding]
    split
    · exact .of_eq rfl
    · rfl
  · rw [State.captureUnit_releaseBinding]
    split
    · rw [State.captureUnit_setUnit_same, ← hended]
      rfl
    · rename_i hne
      rw [State.captureUnit_setUnit, if_neg hne]

/-- R151: a sampling reaches its unit, and at punch-out the strip it was bound to. -/
theorem State.sample_becomes (q : Position) : s.UnitsBecome (s.sample u q) fun v =>
    if u = v then (s.captureUnit u).sampled q (s.boundLevel (s.captureUnit u)) s.clock.period else s.captureUnit v := by
  by_cases hout : (s.captureUnit u).settings.punchOut ≤ q
  · have hsample : s.sample u q =
        (s.setUnit u (s.captureUnit u).counted).finish u q ((s.captureUnit u).lateFlag q) condComplete := if_pos hout
    obtain ⟨hframe, hstrip, hunit⟩ := State.finish_becomes u (s.setUnit u (s.captureUnit u).counted) q
      ((s.captureUnit u).lateFlag q) condComplete
    rw [hsample]
    refine ⟨hframe, hstrip, fun v => (hunit v).trans ?_⟩
    rw [State.captureUnit_setUnit_same, CaptureUnit.finished_counted, CaptureUnit.sampled, if_pos hout, State.captureUnit_setUnit]
    split <;> rfl
  · by_cases hdue : (s.captureUnit u).counted.recordDue q (s.boundLevel (s.captureUnit u)) = true
    · have hsample : s.sample u q = s.setUnit u ((s.captureUnit u).counted.formRecord q (s.boundLevel (s.captureUnit u))
          ((s.captureUnit u).lateFlag q) s.clock.period) := (if_neg hout).trans (if_pos hdue)
      rw [hsample, CaptureUnit.formRecord_counted, CaptureUnit.sampled, if_neg hout, if_pos hdue]
      exact .setUnit ..
    · have hsample : s.sample u q = s.setUnit u (s.captureUnit u).counted := (if_neg hout).trans (if_neg hdue)
      rw [hsample, CaptureUnit.sampled, if_neg hout, if_neg hdue]
      exact .setUnit ..

/-- A unit that an event leaves alone. -/
theorem State.UnitsBecome.rest {c : CaptureUnit} (h : c = s.captureUnit u) :
    s.UnitsBecome s fun v => if u = v then c else s.captureUnit v := by
  refine ⟨rfl, fun _ => .refl _, fun v => ?_⟩
  split
  · rename_i hv
    rw [h, hv]
  · rfl

theorem State.enterWriting_becomes (q : Position) : s.UnitsBecome (s.enterWriting u q) fun v =>
    if u = v then ({ s.captureUnit u with state := .writing } : CaptureUnit).sampled q (s.boundLevel (s.captureUnit u))
        s.clock.period
    else s.captureUnit v := by
  obtain ⟨hframe, hstrip, hunit⟩ := State.sample_becomes u (s.setUnit u { s.captureUnit u with state := .writing }) q
  refine ⟨hframe, hstrip, fun v => (hunit v).trans ?_⟩
  rw [State.captureUnit_setUnit_same, State.captureUnit_setUnit]
  split <;> rfl

theorem State.unitPosition_becomes (q : Position) : s.UnitsBecome (s.unitPosition q u) fun v =>
    if u = v then (s.captureUnit u).atPosition q (s.boundLevel (s.captureUnit u)) s.clock.period
    else s.captureUnit v := by
  unfold State.unitPosition CaptureUnit.atPosition
  cases hstate : (s.captureUnit u).state with
  | armed =>
    by_cases hin : (s.captureUnit u).settings.punchIn ≤ q
    · simp only [if_pos hin]
      exact State.enterWriting_becomes u s q
    · simp only [if_neg hin]
      exact .rest u s rfl
  | writing => exact State.sample_becomes u s q
  | suspended =>
    by_cases hout : (s.captureUnit u).settings.punchOut ≤ q
    · simp only [if_pos hout]
      exact State.finish_becomes u s q 0#8 condComplete
    · simp only [if_neg hout]
      exact .rest u s rfl
  | idle | draining | ended => exact .rest u s rfl

theorem State.unitEnd_becomes (q : Position) (condition : Byte) : s.UnitsBecome (s.unitEnd q condition u) fun v =>
    if u = v then (s.captureUnit u).atEnd q condition (s.boundLevel (s.captureUnit u)) s.clock.period
    else s.captureUnit v := by
  unfold State.unitEnd CaptureUnit.atEnd
  cases hstate : (s.captureUnit u).state with
  | writing | suspended => exact State.finish_becomes u s q 0#8 condition
  | idle | armed | draining | ended => exact .rest u s rfl

end

theorem State.captureFrame_trans {s t r : State} (h : t = { s with units := t.units, engine.strips := t.engine.strips })
    (h' : r = { t with units := r.units, engine.strips := r.engine.strips }) :
    r = { s with units := r.units, engine.strips := r.engine.strips } := by
  rw [h', h]

/-- An event that reaches one unit after another, each by the level it is bound to, reaches each of them once. -/
theorem State.foldl_becomes {f : State → UnitNo → State} {g : Int → Nat → CaptureUnit → CaptureUnit}
    (hf : ∀ (s : State) (u : UnitNo), s.UnitsBecome (f s u) fun v =>
      if u = v then g (s.boundLevel (s.captureUnit u)) s.clock.period (s.captureUnit u) else s.captureUnit v)
    (us : List UnitNo) (hus : us.Nodup) (s : State) : s.UnitsBecome (us.foldl f s) fun v =>
      if v ∈ us then g (s.boundLevel (s.captureUnit v)) s.clock.period (s.captureUnit v) else s.captureUnit v := by
  induction us generalizing s with
  | nil => exact .refl s
  | cons u us ih =>
    obtain ⟨hfirst, hrest⟩ := List.nodup_cons.mp hus
    obtain ⟨hframe, hstrip, hunit⟩ := hf s u
    obtain ⟨hframe', hstrip', hunit'⟩ := ih hrest (f s u)
    refine ⟨?_, fun n => (hstrip n).trans (hstrip' n), fun v => (hunit' v).trans ?_⟩
    · exact State.captureFrame_trans hframe hframe'
    · have hperiod : (f s u).clock.period = s.clock.period := by rw [hframe]
      rw [State.boundLevel_congr fun n => (hstrip n).effective, hperiod, hunit]
      by_cases hv : u = v
      · subst hv
        rw [if_neg hfirst, if_pos rfl, if_pos List.mem_cons_self]
      · simp only [if_neg hv, List.mem_cons, Ne.symm hv, false_or]

/-- R150, R151, R155: a rolling position event that follows on reaches every unit, by the level it is bound to. -/
theorem State.unitsPosition_becomes (q : Position) (s : State) : s.UnitsBecome (s.unitsPosition q) fun u =>
    (s.captureUnit u).atPosition q (s.boundLevel (s.captureUnit u)) s.clock.period := by
  have hfold := State.foldl_becomes (g := fun level period => CaptureUnit.atPosition q level period)
    (fun s u => s.unitPosition_becomes u q) allUnits (List.nodup_finRange 4) s
  exact ⟨hfold.frame, hfold.strip, fun u => (hfold.unit u).trans (if_pos (List.mem_finRange u))⟩

/-- R155: a park or a discontinuity reaches every unit. -/
theorem State.unitsEnd_becomes (q : Position) (condition : Byte) (s : State) :
    s.UnitsBecome (s.unitsEnd q condition) fun u =>
      (s.captureUnit u).atEnd q condition (s.boundLevel (s.captureUnit u)) s.clock.period := by
  have hfold := State.foldl_becomes (g := CaptureUnit.atEnd q condition) (fun s u => s.unitEnd_becomes u q condition)
    allUnits (List.nodup_finRange 4) s
  exact ⟨hfold.frame, hfold.strip, fun u => (hfold.unit u).trans (if_pos (List.mem_finRange u))⟩

end Sys2Proof.Machine
end

section
/-! O46: the transport change, the position event, and the reference event they make up. -/

namespace Sys2Proof.Machine

open Sys2Proof

/-! ### The strips' records (R105, R112) -/

/-- R105: a strip's record once the transport rolls, by whether it rolled before. -/
def Strip.rolled (wasRolling : Bool) (st : Strip) : Strip :=
  { st with latched := st.latched || (!wasRolling && decide (st.mode = .latch) && st.touched) }

theorem Strip.rolled_of_rolling (st : Strip) : st.rolled true = st := by
  rw [Strip.rolled, Bool.not_true, Bool.false_and, Bool.false_and, Bool.or_false]

theorem Strip.startRoll_eq (st : Strip) : st.startRoll = st.rolled false := by
  by_cases h : st.mode = .latch ∧ st.touched = true
  · have hlatched : (st.latched || (!false && decide (st.mode = .latch) && st.touched)) = true := by simp [h.1, h.2]
    rw [Strip.startRoll, if_pos h, Strip.rolled, hlatched]
  · have hnot : (decide (st.mode = .latch) && st.touched) = false := by simpa using h
    rw [Strip.startRoll, if_neg h, Strip.rolled, Bool.not_false, Bool.true_and, hnot, Bool.or_false]

/-- R105: a strip that becomes latched is touched, so that its live level is in force already. -/
theorem Strip.rolled_effective (wasRolling : Bool) (st : Strip) : (st.rolled wasRolling).effective = st.effective := by
  cases wasRolling <;> cases hmode : st.mode <;> cases htouched : st.touched <;>
    simp [Strip.rolled, Strip.effective, Strip.liveInForce, hmode, htouched]

/-- R105: the record a park leaves. -/
theorem State.parkStrip_eq (s : State) (a : Strip) : s.parkStrip a = { a with
    latched := false
    ramp := if ({ a with latched := false } : Strip).effective = a.effective then a.ramp
      else a.ramp.retarget (({ a with latched := false } : Strip).target s.census.soloActive s.engine.activeMutes) a.glide } := by
  rw [State.parkStrip]
  split <;> rfl

/-- R112: the record a cue leaves. -/
theorem State.fired_ramp (s : State) (c : Cue) (a : Strip) : s.fired c a = { a with
    auto := c.level
    ramp := if ({ a with auto := c.level } : Strip).effective = a.effective then a.ramp
      else a.ramp.retarget (({ a with auto := c.level } : Strip).target s.census.soloActive s.engine.activeMutes) c.ramp } := by
  rw [State.fired]
  split <;> rfl

/-- A park reads nothing of a strip's binding, and writes none. -/
theorem Strip.Rebinds.parkStrip {s t : State} {a b : Strip} (h : a.Rebinds b)
    (hsolo : t.census.soloActive = s.census.soloActive) (hmutes : t.engine.activeMutes = s.engine.activeMutes) :
    (s.parkStrip a).Rebinds (t.parkStrip b) := by
  rw [h, State.parkStrip_eq, State.parkStrip_eq, hsolo, hmutes]
  exact .of_eq rfl

theorem Strip.Rebinds.fired {s t : State} {a b : Strip} (h : a.Rebinds b) (c : Cue)
    (hsolo : t.census.soloActive = s.census.soloActive) (hmutes : t.engine.activeMutes = s.engine.activeMutes) :
    (s.fired c a).Rebinds (t.fired c b) := by
  rw [h, State.fired_ramp, State.fired_ramp, hsolo, hmutes]
  exact .of_eq rfl

/-! ### The cues due (R111) -/

section
variable {q : Position} {due later : List Cue}

theorem takeWhile_due (hdue : ∀ d ∈ due, d.position ≤ q) (hlater : ∀ d ∈ later.head?, q < d.position) :
    (due ++ later).takeWhile (Cue.due q) = due := by
  rw [List.takeWhile_append_of_pos (p := Cue.due q) fun d hd => decide_eq_true (hdue d hd)]
  cases later with
  | nil => simp
  | cons d later =>
    have hd : q < d.position := hlater d rfl
    rw [List.takeWhile_cons_of_neg, List.append_nil]
    simp only [Cue.due, decide_eq_true_eq]
    bv_omega

theorem dropWhile_due (hdue : ∀ d ∈ due, d.position ≤ q) (hlater : ∀ d ∈ later.head?, q < d.position) :
    (due ++ later).dropWhile (Cue.due q) = later := by
  rw [List.dropWhile_append_of_pos (p := Cue.due q) fun d hd => decide_eq_true (hdue d hd)]
  cases later with
  | nil => rfl
  | cons d later =>
    have hd : q < d.position := hlater d rfl
    rw [List.dropWhile_cons_of_neg]
    simp only [Cue.due, decide_eq_true_eq]
    bv_omega

end

/-- R112: of the cues due, the last stands. -/
def State.firedLast (s : State) (due : List Cue) (st : Strip) : Strip :=
  match due.getLast? with
  | some c => s.fired c st
  | none => st

theorem State.firedLast_append (s : State) (before : List Cue) (c : Cue) (st : Strip) :
    s.firedLast (before ++ [c]) st = s.fired c st := by
  rw [State.firedLast, List.getLast?_concat]

theorem Strip.Rebinds.firedLast {s t : State} {a b : Strip} (h : a.Rebinds b) (due : List Cue)
    (hsolo : t.census.soloActive = s.census.soloActive) (hmutes : t.engine.activeMutes = s.engine.activeMutes) :
    (s.firedLast due a).Rebinds (t.firedLast due b) := by
  unfold State.firedLast
  split
  · exact h.fired _ hsolo hmutes
  · exact h

section
variable (q : Position) (s : State) (n : StripNo)

theorem State.strip_fireCues :
    (s.fireCues q).strip n = s.firedLast ((s.cueList n).takeWhile (Cue.due q)) (s.strip n) := by
  have hmapped : (s.fireCues q).strip n = (s.mapStrips fun n st => s.firedAt q (s.cueList n) st).strip n := by
    simp only [State.fireCues, State.strip]
  rw [hmapped, State.strip_mapStrips]
  rfl

theorem State.cueList_fireCues : (s.fireCues q).cueList n = (s.cueList n).dropWhile (Cue.due q) := by
  simp [State.fireCues, State.cueList]

end

/-- Firing cues leaves the units alone. -/
theorem State.captureUnit_fireCues (q : Position) (s : State) (u : UnitNo) :
    (s.fireCues q).captureUnit u = s.captureUnit u := by simp only [State.fireCues, State.captureUnit, State.mapStrips]

/-! ### What an event reaches -/

/-- `t` is `s` but for the strips, the cue lists and the units. -/
structure State.TransportFrame (s t : State) : Prop where
  frame : t = { s with engine.strips := t.engine.strips, cues := t.cues, units := t.units }

theorem State.TransportFrame.trans {s t r : State} (h : s.TransportFrame t) (h' : t.TransportFrame r) :
    s.TransportFrame r := ⟨by rw [h'.frame, h.frame]⟩

theorem State.UnitsBecome.transportFrame {s t : State} {c : UnitNo → CaptureUnit} (h : s.UnitsBecome t c) :
    s.TransportFrame t := ⟨by rw [h.frame]⟩

section
variable {s t : State} (h : s.TransportFrame t)
include h

theorem State.TransportFrame.clock : t.clock = s.clock := by rw [h.frame]
theorem State.TransportFrame.activeMutes : t.engine.activeMutes = s.engine.activeMutes := by rw [h.frame]
theorem State.TransportFrame.soloActive : t.census.soloActive = s.census.soloActive := by rw [h.frame]

end

theorem State.UnitsBecome.cueList {s t : State} {c : UnitNo → CaptureUnit} (h : s.UnitsBecome t c) (n : StripNo) :
    t.cueList n = s.cueList n := by
  rw [h.frame]
  rfl

theorem State.UnitsBecome.cues {s t : State} {c : UnitNo → CaptureUnit} (h : s.UnitsBecome t c) : t.cues = s.cues := by
  rw [h.frame]

/-- R151: the level a unit of record `c` takes in an event from `s` to `t` is its strip's effective fader before the event or
after it. -/
def State.LevelTaken (s t : State) (c : CaptureUnit) (level : Int) : Prop :=
  ∀ n : StripNo, c.bound = some n → level = (s.strip n).effective ∨ level = (t.strip n).effective

section
variable {s t x : State}

/-- The units take the level before the strips move. -/
theorem State.LevelTaken.before (h : ∀ n : StripNo, (x.strip n).effective = (s.strip n).effective) (c : CaptureUnit) :
    s.LevelTaken t c (x.boundLevel c) := fun n hn => .inl ((x.boundLevel_of_bound hn).trans (h n))

/-- The units take the level once the strips have moved. -/
theorem State.LevelTaken.after (h : ∀ n : StripNo, (x.strip n).Rebinds (t.strip n)) (c : CaptureUnit) :
    s.LevelTaken t c (x.boundLevel c) := fun n hn => .inr ((x.boundLevel_of_bound hn).trans (h n).effective.symm)

end

/-! ### The change to parked (R105, R155) -/

/-- What the change to parked leaves, the units ahead of the strips or after them. -/
structure State.Parked (s t : State) : Prop where
  frame : s.TransportFrame t
  cues : t.cues = s.cues
  strip : ∀ n : StripNo, (s.parkStrip (s.strip n)).Rebinds (t.strip n)
  unit : ∀ u : UnitNo, ∃ level, s.LevelTaken t (s.captureUnit u) level ∧
    t.captureUnit u = (s.captureUnit u).atEnd s.clock.position 0x04#8 level s.clock.period

theorem State.stripsPark_transportFrame (s : State) : s.TransportFrame s.stripsPark :=
  ⟨by simp only [State.stripsPark, State.mapStrips]⟩

theorem State.parkIn_parked (unitsFirst : Bool) (s : State) : s.Parked (s.parkIn unitsFirst) := by
  cases unitsFirst with
  | true =>
    have hunits := s.unitsEnd_becomes s.clock.position condParked
    refine ⟨hunits.transportFrame.trans (State.stripsPark_transportFrame _), ?_, fun n => ?_, fun u => ?_⟩
    · exact (State.mapStrips_cues ..).trans hunits.cues
    · rw [State.parkIn, if_pos rfl, State.stripsPark, State.strip_mapStrips]
      exact (hunits.strip n).parkStrip hunits.transportFrame.soloActive hunits.transportFrame.activeMutes
    · refine ⟨_, .before (fun _ => rfl) _, (State.captureUnit_mapStrips ..).trans (hunits.unit u)⟩
  | false =>
    have hunits := s.stripsPark.unitsEnd_becomes s.clock.position condParked
    refine ⟨(State.stripsPark_transportFrame s).trans hunits.transportFrame, ?_, fun n => ?_, fun u => ?_⟩
    · exact hunits.cues.trans (State.mapStrips_cues ..)
    · have hparked : s.stripsPark.strip n = s.parkStrip (s.strip n) := State.strip_mapStrips ..
      exact hparked ▸ hunits.strip n
    · have hunit : s.stripsPark.captureUnit u = s.captureUnit u := State.captureUnit_mapStrips ..
      refine ⟨_, .after hunits.strip _, (hunits.unit u).trans ?_⟩
      rw [hunit]
      rfl

/-! ### Rolling (R105, R111, R113, R150 to R155) -/

/-- R105: the strips once the transport rolls. -/
def State.rolled (s : State) : State := if s.clock.rolling then s else s.stripsRoll

theorem State.transportChange_rolling (unitsFirst : Bool) (s : State) : s.transportChange true unitsFirst = s.rolled := by
  rw [State.transportChange, State.rolled]
  cases hrolling : s.clock.rolling <;> rfl

section
variable (s : State)

theorem State.rolled_frame : s.rolled = { s with engine.strips := s.rolled.engine.strips } := by
  rw [State.rolled]
  split <;> rfl

theorem State.rolled_transportFrame : s.TransportFrame s.rolled := ⟨by rw [State.rolled_frame]⟩

theorem State.cueList_rolled (n : StripNo) : s.rolled.cueList n = s.cueList n := by
  rw [State.rolled_frame]
  rfl

theorem State.captureUnit_rolled (u : UnitNo) : s.rolled.captureUnit u = s.captureUnit u := by
  rw [State.rolled_frame]
  rfl

theorem State.clock_rolled : s.rolled.clock = s.clock := s.rolled_transportFrame.clock

theorem State.strip_rolled (n : StripNo) : s.rolled.strip n = (s.strip n).rolled s.clock.rolling := by
  rw [State.rolled]
  split
  · rename_i hrolling
    rw [hrolling, Strip.rolled_of_rolling]
  · rename_i hparked
    rw [State.stripsRoll, State.strip_mapStrips, Strip.startRoll_eq, Bool.eq_false_iff.mpr hparked]

end

/-- What a discontinuity leaves. -/
structure State.Jumped (s t : State) : Prop where
  frame : s.TransportFrame t
  cueList : ∀ n : StripNo, t.cueList n = []
  strip : ∀ n : StripNo, ((s.strip n).rolled s.clock.rolling).Rebinds (t.strip n)
  unit : ∀ u : UnitNo, ∃ level, s.LevelTaken t (s.captureUnit u) level ∧
    t.captureUnit u = (s.captureUnit u).atEnd s.clock.position 0x08#8 level s.clock.period

theorem State.rolled_jump_jumped (s : State) : s.Jumped s.rolled.jump := by
  have hunits := s.rolled.emptyCues.unitsEnd_becomes s.rolled.clock.position condDiscontinuity
  have hemptied : s.rolled.TransportFrame s.rolled.emptyCues := ⟨rfl⟩
  refine ⟨(s.rolled_transportFrame.trans hemptied).trans hunits.transportFrame, fun n => ?_, fun n => ?_, fun u => ?_⟩
  · exact (hunits.cueList n).trans (State.cueList_emptyCues ..)
  · rw [← State.strip_rolled]
    exact hunits.strip n
  · refine ⟨_, .after hunits.strip _, (hunits.unit u).trans ?_⟩
    rw [State.captureUnit_emptyCues, State.captureUnit_rolled, hemptied.clock, State.clock_rolled]
    rfl

/-- What a rolling position event that follows on leaves, the units ahead of the cues or after them. -/
structure State.Followed (s t : State) (q : Position) : Prop where
  frame : s.TransportFrame t
  cueList : ∀ n : StripNo, t.cueList n = (s.cueList n).dropWhile (Cue.due q)
  strip : ∀ n : StripNo, (s.firedLast ((s.cueList n).takeWhile (Cue.due q)) ((s.strip n).rolled s.clock.rolling)).Rebinds
    (t.strip n)
  unit : ∀ u : UnitNo, ∃ level, s.LevelTaken t (s.captureUnit u) level ∧
    t.captureUnit u = (s.captureUnit u).atPosition q level s.clock.period

theorem State.fireCues_transportFrame (q : Position) (s : State) : s.TransportFrame (s.fireCues q) :=
  ⟨by simp only [State.fireCues, State.mapStrips]⟩

theorem State.rolled_positionIn_followed (unitsFirst : Bool) (q : Position) (s : State) :
    s.Followed (s.rolled.positionIn unitsFirst q) q := by
  have hrolled := s.rolled_transportFrame
  cases unitsFirst with
  | true =>
    have hunits := s.rolled.unitsPosition_becomes q
    have hframe := hrolled.trans hunits.transportFrame
    refine ⟨hframe.trans (State.fireCues_transportFrame q _), fun n => ?_, fun n => ?_, fun u => ?_⟩
    · rw [State.positionIn, if_pos rfl, State.cueList_fireCues, hunits.cueList, State.cueList_rolled]
    · rw [State.positionIn, if_pos rfl, State.strip_fireCues, hunits.cueList, State.cueList_rolled, ← State.strip_rolled]
      exact (hunits.strip n).firedLast _ hframe.soloActive hframe.activeMutes
    · refine ⟨_, .before (x := s.rolled) (fun n => ?_) _, (State.captureUnit_fireCues ..).trans ((hunits.unit u).trans ?_)⟩
      · rw [State.strip_rolled, Strip.rolled_effective]
      · rw [State.captureUnit_rolled, State.clock_rolled]
  | false =>
    have hunits := (s.rolled.fireCues q).unitsPosition_becomes q
    have hfired := State.fireCues_transportFrame q s.rolled
    refine ⟨(hrolled.trans hfired).trans hunits.transportFrame, fun n => ?_, fun n => ?_, fun u => ?_⟩
    · refine (hunits.cueList n).trans ?_
      rw [State.cueList_fireCues, State.cueList_rolled]
    · refine Strip.Rebinds.trans ?_ (hunits.strip n)
      rw [State.strip_fireCues, State.cueList_rolled, State.strip_rolled]
      exact (Strip.Rebinds.refl _).firedLast _ hrolled.soloActive hrolled.activeMutes
    · have hunit : (s.rolled.fireCues q).captureUnit u = s.captureUnit u :=
        (State.captureUnit_fireCues ..).trans (s.captureUnit_rolled u)
      refine ⟨_, .after hunits.strip _, (hunits.unit u).trans ?_⟩
      rw [hunit, hfired.clock, State.clock_rolled]

end Sys2Proof.Machine
end

section
/-! O46: the reference event settled. -/

namespace Sys2Proof.Machine

open Sys2Proof

/-! ### The event by the reading, the transport before it, and the position (R172, R173) -/

/-- R172: the transport change and the position event of a reading. -/
def State.moved (parkUnitsFirst cueUnitsFirst : Bool) (q : Position) (reading : Bool) (s : State) : State :=
  (s.transportChange reading parkUnitsFirst).positionEvent q reading cueUnitsFirst

/-- R173: a discontinuity, as the statements write it. -/
theorem State.discontinuous_eq (q : Position) (s : State) : s.discontinuous q = (s.clock.referenced &&
    decide (q ≠ s.clock.position + 1#48) && (s.clock.rolling || decide (q ≠ s.clock.position))) := by
  simp only [State.discontinuous, bne, beq_eq_decide, ne_eq, decide_not]

section
variable (parkUnitsFirst cueUnitsFirst : Bool) (q : Position) {s : State}

theorem State.moved_rests (h : s.clock.rolling = false) : s.moved parkUnitsFirst cueUnitsFirst q false = s := by
  rw [State.moved, State.transportChange, if_pos h.symm]
  rfl

theorem State.moved_parks (h : s.clock.rolling = true) : s.Parked (s.moved parkUnitsFirst cueUnitsFirst q false) := by
  rw [State.moved, State.transportChange, h]
  exact s.parkIn_parked parkUnitsFirst

theorem State.discontinuous_rolled (s : State) : s.rolled.discontinuous q = s.discontinuous q := by
  rw [State.discontinuous, State.clock_rolled]
  rfl

theorem State.moved_jumps (h : s.discontinuous q = true) : s.Jumped (s.moved parkUnitsFirst cueUnitsFirst q true) := by
  rw [State.moved, State.transportChange_rolling, State.positionEvent, if_pos rfl,
    if_pos ((s.discontinuous_rolled q).trans h)]
  exact s.rolled_jump_jumped

theorem State.moved_follows (h : s.discontinuous q = false) :
    s.Followed (s.moved parkUnitsFirst cueUnitsFirst q true) q := by
  rw [State.moved, State.transportChange_rolling, State.positionEvent, if_pos rfl,
    if_neg (Bool.eq_false_iff.mp ((s.discontinuous_rolled q).trans h))]
  exact s.rolled_positionIn_followed cueUnitsFirst q

/-- An event reaches the strips, the cue lists and the units; nothing else of what it is judged by. -/
theorem State.moved_frame (reading : Bool) : s.TransportFrame (s.moved parkUnitsFirst cueUnitsFirst q reading) := by
  cases reading with
  | false =>
    cases hrolling : s.clock.rolling with
    | false => exact ⟨by rw [State.moved_rests _ _ _ hrolling]⟩
    | true => exact (State.moved_parks _ _ _ hrolling).frame
  | true =>
    cases hjump : s.discontinuous q with
    | true => exact (State.moved_jumps _ _ _ hjump).frame
    | false => exact (State.moved_follows _ _ _ hjump).frame

end

/-- R150 to R155: a unit after the event. -/
def CaptureUnit.moved (reading wasRolling jump : Bool) (last q : Position) (level : Int) (period : Nat) (c : CaptureUnit) :
    CaptureUnit :=
  match reading, jump with
  | true, true => c.atEnd last 0x08#8 level period
  | true, false => c.atPosition q level period
  | false, _ => if wasRolling then c.atEnd last 0x04#8 level period else c

theorem State.captureUnit_moved (parkUnitsFirst cueUnitsFirst : Bool) (q : Position) (reading : Bool) (s : State) (u : UnitNo) :
    ∃ level, s.LevelTaken (s.moved parkUnitsFirst cueUnitsFirst q reading) (s.captureUnit u) level ∧
      (s.moved parkUnitsFirst cueUnitsFirst q reading).captureUnit u =
        (s.captureUnit u).moved reading s.clock.rolling (s.discontinuous q) s.clock.position q level s.clock.period := by
  cases reading with
  | false =>
    cases hrolling : s.clock.rolling with
    | false => exact ⟨_, .before (x := s) (fun _ => rfl) _, by rw [State.moved_rests _ _ _ hrolling]; rfl⟩
    | true => exact (State.moved_parks _ _ _ hrolling).unit u
  | true =>
    cases hjump : s.discontinuous q with
    | true => exact (State.moved_jumps _ _ _ hjump).unit u
    | false => exact (State.moved_follows _ _ _ hjump).unit u

/-! ### The commands -/

theorem State.referenceOpen_of {s : State} (hstart : s.clock.start = .passing ∨ s.clock.start = .joined)
    (hfree : s.clock.taken.referenced = false) : s.referenceOpen = true := by
  rw [State.referenceOpen, s.periodsPass_iff.mpr hstart, hfree]
  rfl

/-- R172: the reference state takes the reading. -/
def State.referencedAt (q : Position) (reading : Bool) (s : State) : State := { s with
  clock.rolling := reading, clock.position := q, clock.referenced := true, clock.taken.referenced := true }

/-- R172: the reference event of a period, by what it does to the transport. -/
theorem exec_referenceEvent {s : State} {position q : Position} {rolling valid reading : Bool}
    (hstart : s.clock.start = .passing ∨ s.clock.start = .joined) (hfree : s.clock.taken.referenced = false)
    (hreading : reading = (rolling && valid)) (hq : q = if valid then position else s.clock.position) :
    ∃ parkUnitsFirst cueUnitsFirst, exec (.referenceEvent position rolling valid) s = .next
      ((State.moved parkUnitsFirst cueUnitsFirst q reading
        { s with reports := if valid then s.reports else (s.latchNode .positionFault).reports }).referencedAt q reading) := by
  subst hreading hq
  refine ⟨Config.captureBeforePark s.clock.period, Config.captureBeforeCues s.clock.period,
    congrArg _ ((if_pos (State.referenceOpen_of hstart hfree)).trans ?_)⟩
  cases valid <;> rfl

/-! ### A unit after the event, by its state -/

section
variable {reading wasRolling jump : Bool} {last q : Position} {level : Int} {period : Nat} {c : CaptureUnit}

theorem CaptureUnit.atEnd_of_captures {condition : Byte} (h : c.state = .writing ∨ c.state = .suspended) :
    c.atEnd q condition level period = { c.formRecord q level 0x01#8 period with
      state := .draining, bound := none
      conditions := (c.formRecord q level 0x01#8 period).conditions ||| condition } := by
  rcases h with hstate | hstate <;> simp only [CaptureUnit.atEnd, hstate] <;> exact CaptureUnit.finished_plain ..

theorem CaptureUnit.atEnd_of_rests {condition : Byte} (h : c.state ≠ .writing ∧ c.state ≠ .suspended) :
    c.atEnd q condition level period = c := by
  unfold CaptureUnit.atEnd
  split
  case h_1 hstate => exact absurd hstate h.1
  case h_2 hstate => exact absurd hstate h.2
  all_goals rfl

/-- A unit that captures nothing is left alone. -/
theorem CaptureUnit.moved_of_idle (h : c.state = .idle ∨ c.state = .draining ∨ c.state = .ended) :
    c.moved reading wasRolling jump last q level period = c := by
  have hrests (condition : Byte) : c.atEnd last condition level period = c :=
    CaptureUnit.atEnd_of_rests (by rcases h with h | h | h <;> simp [h])
  have hposition : c.atPosition q level period = c := by
    rcases h with h | h | h <;> simp only [CaptureUnit.atPosition, h]
  cases reading <;> cases jump <;> simp only [CaptureUnit.moved, hrests, hposition, ite_self]

/-- R150: an ARMED unit waits for punch-in. -/
theorem CaptureUnit.moved_of_armed (harmed : c.state = .armed)
    (h : reading = false ∨ jump = true ∨ q < c.settings.punchIn) :
    c.moved reading wasRolling jump last q level period = c := by
  have hrests (condition : Byte) : c.atEnd last condition level period = c :=
    CaptureUnit.atEnd_of_rests (by simp [harmed])
  match reading, jump with
  | false, _ => simp only [CaptureUnit.moved, hrests, ite_self]
  | true, true => exact hrests _
  | true, false =>
    have hbelow : ¬c.settings.punchIn ≤ q := by
      have : q < c.settings.punchIn := (h.resolve_left nofun).resolve_left nofun
      bv_omega
    simp only [CaptureUnit.moved, CaptureUnit.atPosition, harmed, if_neg hbelow]

/-- R155: a SUSPENDED unit samples nothing, and ends at punch-out. -/
theorem CaptureUnit.atPosition_of_suspended (h : c.state = .suspended) : c.atPosition q level period =
    if c.settings.punchOut ≤ q then { c.formRecord q level 0x01#8 period with
      state := .draining, bound := none
      conditions := (c.formRecord q level 0x01#8 period).conditions ||| 0x01#8 }
    else c := by
  simp only [CaptureUnit.atPosition, h]
  rfl

end

/-- R151: KEEPALIVE is the reference event, rolling at the next position. -/
theorem exec_keepalive {s : State} {u : UnitNo} {q : Position}
    (hstart : s.clock.start = .passing ∨ s.clock.start = .joined) (hfree : s.clock.taken.referenced = false)
    (hnext : q = s.clock.position + 1#48) (hwriting : (s.captureUnit u).state = .writing)
    (hcount : 4799 ≤ (s.captureUnit u).keepalive) :
    exec (.keepalive u q) s = exec (.referenceEvent q true true) s := by
  have hopen := State.referenceOpen_of hstart hfree
  have hdue : s.keepaliveDue u q = true := by
    have hfollows : s.discontinuous q = false := by simp [State.discontinuous, hnext]
    rw [State.keepaliveDue, hopen, hfollows, hwriting, decide_eq_true (by omega)]
    rfl
  exact congrArg _ ((if_pos hdue).trans (if_pos hopen).symm)

/-- R151: a unit's count of 4800 forces a record. -/
theorem keepalive_formsRecord {s : State} {u : UnitNo} {q : Position}
    (hstart : s.clock.start = .passing ∨ s.clock.start = .joined) (hfree : s.clock.taken.referenced = false)
    (hnext : q = s.clock.position + 1#48) (hwriting : (s.captureUnit u).state = .writing)
    (hcount : 4799 ≤ (s.captureUnit u).keepalive) (hbelow : q < (s.captureUnit u).settings.punchOut) :
    ∃ t level, exec (.keepalive u q) s = .next t ∧ t.captureUnit u =
      { (s.captureUnit u).formRecord q level ((s.captureUnit u).lateFlag q) s.clock.period with state := .writing } := by
  have hreading : (if true then q else s.clock.position) = q := if_pos rfl
  obtain ⟨parkFirst, cueFirst, hexec⟩ :=
    exec_referenceEvent (rolling := true) (valid := true) hstart hfree rfl hreading.symm
  obtain ⟨level, -, hunit⟩ := State.captureUnit_moved parkFirst cueFirst q true s u
  have hfollows : s.discontinuous q = false := by simp [State.discontinuous, hnext]
  refine ⟨_, level, (exec_keepalive hstart hfree hnext hwriting hcount).trans hexec, Eq.trans hunit ?_⟩
  rw [hfollows]
  exact CaptureUnit.atPosition_of_due (.inl hwriting) hbelow (.inr (.inr (.inr hcount)))

/-- R111, R112: the list and the record that a rolling position event leaves, by the cues it finds due. -/
theorem State.Followed.fires {s t : State} {q : Position} (h : s.Followed t q) {n : StripNo} {due later : List Cue}
    (hlist : s.cueList n = due ++ later) (hdue : ∀ d ∈ due, d.position ≤ q) (hlater : ∀ d ∈ later.head?, q < d.position) :
    t.cueList n = later ∧ (s.firedLast due ((s.strip n).rolled s.clock.rolling)).Rebinds (t.strip n) := by
  have hleft := h.cueList n
  have hfired := h.strip n
  rw [hlist, dropWhile_due hdue hlater] at hleft
  rw [hlist, takeWhile_due hdue hlater] at hfired
  exact ⟨hleft, hfired⟩

/-- Settles O46: the strips, the cue lists and the units by whether the transport rolled, whether it rolls, and whether the
position jumps. -/
theorem referenceEventMovesTheTransport : Obligations.ReferenceEventMovesTheTransport := by
  refine ⟨fun position q rolling valid reading s hstart hfree hreading hq => ?_,
    fun u q c s hstart hfree hc hwriting hcount hnext hbelow hroom => ?_⟩
  · obtain ⟨parkFirst, cueFirst, hexec⟩ := exec_referenceEvent hstart hfree hreading hq
    rw [hexec]
    generalize hreports : (if valid then s.reports else (s.latchNode .positionFault).reports) = reports
    have hframe := State.moved_frame parkFirst cueFirst q (s := { s with reports := reports }) reading
    have hunits := State.captureUnit_moved parkFirst cueFirst q reading { s with reports := reports }
    refine ⟨_, rfl, ?_, ?_, ?_, fun jump hjump => ⟨?_, ?_⟩⟩
    · rw [State.referencedAt, hframe.frame]
    · rintro rfl hparked
      rw [State.moved_rests (s := { s with reports := reports }) _ _ _ hparked]
      exact ⟨rfl, rfl, rfl⟩
    · rintro rfl hrolling
      have hparks := State.moved_parks (s := { s with reports := reports }) parkFirst cueFirst q hrolling
      refine ⟨hparks.cues, fun n a b ha hb => Eq.trans (hparks.strip n) ?_⟩
      rw [State.parkStrip_eq, hb, ha]
      rfl
    · rintro rfl n a due later ha hlist hdue hlater
      have harolled : a = (s.strip n).rolled s.clock.rolling := ha
      obtain rfl : jump = s.discontinuous q := hjump.trans (State.discontinuous_eq q s).symm
      refine ⟨fun hjumps => ?_, fun hfollows => ?_⟩
      · have hjumped := State.moved_jumps (s := { s with reports := reports }) parkFirst cueFirst q hjumps
        exact ⟨hjumped.cueList n, harolled ▸ hjumped.strip n⟩
      · have hfollowed := State.moved_follows (s := { s with reports := reports }) parkFirst cueFirst q hfollows
        obtain ⟨hleft, hfired⟩ := hfollowed.fires (n := n) hlist hdue hlater
        refine ⟨hleft, ?_, fun before c b hlast hb => ?_⟩
        · rintro rfl
          exact harolled ▸ hfired
        · rw [hlast, State.firedLast_append] at hfired
          refine Eq.trans hfired ?_
          rw [State.fired_ramp, hb, harolled]
          rfl
    · intro u c d late took hc hd hlate htook
      obtain ⟨level, hlevel, hunit⟩ := hunits u
      obtain rfl : took = fun at_q level flags => c.formRecord at_q level flags s.clock.period := by
        funext at_q level flags
        rw [htook, CaptureUnit.formRecord_eq]
      obtain rfl : late = c.lateFlag q := hlate.trans (CaptureUnit.lateFlag_eq q c).symm
      obtain rfl : jump = s.discontinuous q := hjump.trans (State.discontinuous_eq q s).symm
      have hmoved : d = c.moved reading s.clock.rolling (s.discontinuous q) s.clock.position q level s.clock.period := by
        rw [hd, hc]
        exact hunit
      refine ⟨fun hidle => ?_, fun harmed hwaits => ?_, fun hsuspended hrolls hfollows hbelow => ?_, fun n hn =>
        ⟨level, hlevel n (hc ▸ hn), fun hcaptures => ⟨fun hparks hrolling => ?_, fun hrolls hjumps => ?_⟩,
          fun hsuspended hrolls hfollows hout => ?_, fun hsamples hrolls hfollows => ⟨fun hout => ?_, fun hbelow =>
            ⟨fun hdue => ?_, fun last hlast => ⟨fun hne hfar => ?_, fun hnear hmarks hcount => ?_⟩⟩⟩⟩⟩
      · rw [hmoved, CaptureUnit.moved_of_idle hidle]
      · rw [hmoved, CaptureUnit.moved_of_armed harmed hwaits]
      · rw [hmoved, hrolls, hfollows, CaptureUnit.moved, CaptureUnit.atPosition_of_suspended hsuspended, if_neg (by bv_omega)]
      · rw [hmoved, hparks, hrolling]
        exact CaptureUnit.atEnd_of_captures hcaptures
      · rw [hmoved, hrolls, hjumps]
        exact CaptureUnit.atEnd_of_captures hcaptures
      · rw [hmoved, hrolls, hfollows, CaptureUnit.moved, CaptureUnit.atPosition_of_suspended hsuspended, if_pos hout]
      · rw [hmoved, hrolls, hfollows]
        exact CaptureUnit.atPosition_of_out hsamples hout
      · rw [hmoved, hrolls, hfollows]
        exact CaptureUnit.atPosition_of_due hsamples hbelow (hdue.imp_right .inr)
      · rw [hmoved, hrolls, hfollows]
        exact CaptureUnit.atPosition_of_due hsamples hbelow (.inr (.inl ⟨last, hlast, hne, hfar⟩))
      · rw [hmoved, hrolls, hfollows]
        exact CaptureUnit.atPosition_of_quiet hsamples hbelow hlast hnear hmarks hcount
  · subst hc
    obtain ⟨t, level, hexec, hformed⟩ := keepalive_formsRecord hstart hfree hnext hwriting hcount hbelow
    rw [CaptureUnit.formRecord_eq, if_pos hroom] at hformed
    exact ⟨exec_keepalive hstart hfree hnext hwriting hcount, t, _, hexec, congrArg CaptureUnit.buffer hformed, rfl, rfl,
      congrArg CaptureUnit.lastLevel hformed, congrArg CaptureUnit.keepalive hformed⟩

end Sys2Proof.Machine
end

section
/-! SUPPORT. The census tables (R121 to R124, R128): each operation changes the keys of one home and exchanges its link entries with
the free stack. -/

namespace Sys2Proof.Machine

open Sys2Proof

/-! ### One home -/

theorem CensusTable.setHome_home (i j : Fin 128) (h : Option HomeEntry) (t : CensusTable) :
    (t.setHome i h).home[j] = if i = j then h else t.home[j] := by
  simp only [CensusTable.setHome, Fin.getElem_fin, Vector.getElem_set, Fin.val_inj]

/-- R122: a key is present where its home's keys hold it. -/
theorem CensusTable.present_iff {t : CensusTable} {k : Key} {i : Fin 128} (hi : k.home = i) :
    t.present k = true ↔ k ∈ homeKeys t.home[i] := by
  subst hi
  unfold CensusTable.present
  split
  · rename_i h
    rw [h]
    exact ⟨nofun, nofun⟩
  · rename_i h
    rw [h]
    simp [homeKeys, @eq_comm _ k]

/-- What one element of a list stands for is exchanged when the element is replaced. -/
theorem flatMap_set_perm {α β : Type} [DecidableEq β] (f : α → List β) (l : List α) (i : Nat) (hi : i < l.length) (a : α) :
    ((l.set i a).flatMap f ++ f l[i]).Perm (l.flatMap f ++ f a) := by
  rw [List.perm_iff_count]
  intro e
  induction l generalizing i with
  | nil => cases hi
  | cons x l ih =>
    cases i with
    | zero =>
      simp only [List.set_cons_zero, List.flatMap_cons, List.getElem_cons_zero, List.count_append]
      omega
    | succ i =>
      have := ih i (by simpa using hi)
      simp only [List.set_cons_succ, List.flatMap_cons, List.getElem_cons_succ, List.count_append] at this ⊢
      omega

/-- R121: the link entries a table uses, after one home is replaced. -/
theorem CensusTable.links_setHome (i : Fin 128) (h : Option HomeEntry) (t : CensusTable) :
    ((t.setHome i h).links ++ homeLinks t.home[i]).Perm (t.links ++ homeLinks h) := by
  simpa [CensusTable.links, CensusTable.setHome, Vector.toList_set] using
    flatMap_set_perm homeLinks t.home.toList i.val (by simp) h

/-- `t'` is `t` with `keys` at home `i`: the other homes stand, and each link entry is still in use once or free. -/
structure CensusTable.Rehomed (t t' : CensusTable) (i : Fin 128) (keys : List Key) : Prop where
  others : ∀ j, j ≠ i → t'.home[j] = t.home[j]
  keys : homeKeys t'.home[i] = keys
  links : (t'.links ++ t'.free).Perm (t.links ++ t.free)

/-- A home replaced, its link entries exchanged with the free stack. -/
theorem CensusTable.rehomed_setHome {t : CensusTable} {i : Fin 128} {h : Option HomeEntry} {free : List (Fin 64)}
    (hlinks : (homeLinks h ++ free).Perm (homeLinks t.home[i] ++ t.free)) :
    t.Rehomed { t.setHome i h with free := free } i (homeKeys h) where
  others j hj := by
    rw [← if_neg hj.symm (c := i = j) (t := h) (e := t.home[j]), ← CensusTable.setHome_home]
  keys := by
    have : (t.setHome i h).home[i] = h := by rw [CensusTable.setHome_home, if_pos rfl]
    exact congrArg homeKeys this
  links := by
    rw [List.perm_iff_count] at hlinks ⊢
    intro e
    have hset := (t.links_setHome i h).count_eq e
    have hfree := hlinks e
    have hsame : ({ t.setHome i h with free := free } : CensusTable).links = (t.setHome i h).links := rfl
    rw [hsame]
    simp only [List.count_append] at hset hfree ⊢
    omega

theorem CensusTable.rehomed_self (i : Fin 128) (t : CensusTable) : t.Rehomed t i (homeKeys t.home[i]) :=
  ⟨fun _ _ => rfl, rfl, .rfl⟩

section
variable {t t' : CensusTable} {i : Fin 128} {keys : List Key} (h : t.Rehomed t' i keys)
include h

/-- R122: presence after one home's keys changed. -/
theorem CensusTable.Rehomed.present_iff (k : Key) :
    t'.present k = true ↔ if k.home = i then k ∈ keys else t.present k = true := by
  split
  · rename_i e
    rw [CensusTable.present_iff e, h.keys]
  · rename_i e
    rw [CensusTable.present_iff rfl, h.others _ e, CensusTable.present_iff rfl]

theorem CensusTable.Rehomed.sound {own : Member} (ht : t.Sound own) (hnodup : keys.Nodup)
    (hkeys : ∀ k ∈ keys, k.home = i ∧ k.member ≠ own) : t'.Sound own := by
  obtain ⟨hlinks, hhomes⟩ := ht
  refine ⟨h.links.trans hlinks, fun j => ?_⟩
  by_cases hj : j = i
  · subst hj
    rw [h.keys]
    exact ⟨hnodup, hkeys⟩
  · rw [h.others j hj]
    exact hhomes j

end

/-! ### Learning (R123) -/

/-- R123: a key that is present, or that finds no link entry, is not learned. -/
theorem CensusTable.learn_of_not {t : CensusTable} {k : Key} (h : t.present k = true ∨ t.overflows k = true) :
    t.learn k = t := by
  unfold CensusTable.learn
  split
  · rfl
  · rename_i hp
    rcases h with h | h
    · exact absurd h hp
    · simp only [CensusTable.overflows, Bool.and_eq_true, List.isEmpty_iff] at h
      obtain ⟨⟨-, hhome⟩, hfree⟩ := h
      obtain ⟨e, he⟩ := Option.isSome_iff_exists.mp hhome
      rw [he, hfree]

/-- R123: a key that is learned joins its home's keys. -/
theorem CensusTable.learn_rehomed {t : CensusTable} {k : Key} (hp : t.present k = false) (ho : t.overflows k = false) :
    t.Rehomed (t.learn k) k.home (homeKeys t.home[k.home] ++ [k]) := by
  unfold CensusTable.learn
  rw [if_neg (Bool.eq_false_iff.mp hp)]
  split
  · rename_i h
    rw [h]
    exact CensusTable.rehomed_setHome (by rw [h]; rfl)
  · rename_i h he
    split
    · rename_i e rest hfree
      have hkeys : homeKeys (some h) ++ [k] = homeKeys (some { h with chain := h.chain ++ [{ entry := e, key := k }] }) := by
        simp [homeKeys]
      rw [he, hkeys]
      refine CensusTable.rehomed_setHome ?_
      simp [he, hfree, homeLinks]
    · rename_i hfree
      simp [CensusTable.overflows, hp, he, hfree] at ho

/-- R123: which keys are present once a key is learned. -/
theorem CensusTable.present_learn_of_ne {k other : Key} (hne : other ≠ k) (t : CensusTable) :
    (t.learn k).present other = t.present other := by
  by_cases hnot : t.present k = true ∨ t.overflows k = true
  · rw [CensusTable.learn_of_not hnot]
  · rw [not_or, Bool.not_eq_true, Bool.not_eq_true] at hnot
    rw [Bool.eq_iff_iff, (CensusTable.learn_rehomed hnot.1 hnot.2).present_iff]
    split
    · rename_i hhome
      rw [CensusTable.present_iff hhome]
      simp [hne]
    · rfl

/-- R123: a key offered is present afterwards unless it overflows. -/
theorem CensusTable.present_learn (k : Key) (t : CensusTable) : (t.learn k).present k = !t.overflows k := by
  cases hp : t.present k with
  | true => simp [CensusTable.learn_of_not (.inl hp), CensusTable.overflows, hp]
  | false =>
    cases ho : t.overflows k with
    | true => simp [CensusTable.learn_of_not (.inr ho), hp]
    | false => rw [Bool.not_false, (CensusTable.learn_rehomed hp ho).present_iff, if_pos rfl]; simp

theorem CensusTable.Sound.learn {own : Member} {t : CensusTable} {k : Key} (h : t.Sound own) (hk : k.member ≠ own) :
    (t.learn k).Sound own := by
  by_cases hnot : t.present k = true ∨ t.overflows k = true
  · rw [CensusTable.learn_of_not hnot]
    exact h
  · rw [not_or, Bool.not_eq_true, Bool.not_eq_true] at hnot
    obtain ⟨hnodup, hkeys⟩ := h.2 k.home
    have habsent : k ∉ homeKeys t.home[k.home] := fun hmem => by
      rw [(CensusTable.present_iff rfl).mpr hmem] at hnot
      cases hnot.1
    have hfresh : (homeKeys t.home[k.home] ++ [k]).Nodup := hnodup.append (List.nodup_singleton k) (by simpa using habsent)
    refine (CensusTable.learn_rehomed hnot.1 hnot.2).sound h hfresh fun x hx => ?_
    rcases List.mem_append.mp hx with hx | hx
    · exact hkeys x hx
    · rw [List.mem_singleton.mp hx]
      exact ⟨rfl, hk⟩

/-! ### Removing (R124) -/

theorem unlink_keys (k : Key) (chain : List ChainLink) :
    (unlink k chain).map ChainLink.key = (chain.map ChainLink.key).erase k := by
  induction chain with
  | nil => rfl
  | cons l chain ih =>
    unfold unlink
    by_cases h : l.key = k <;> simp [h, ih]

/-- R124: the link entry that is unlinked is the one found. -/
theorem unlink_entries {k : Key} {chain : List ChainLink} {l : ChainLink} (h : (chain.find? fun l => l.key == k) = some l) :
    (l.entry :: (unlink k chain).map ChainLink.entry).Perm (chain.map ChainLink.entry) := by
  induction chain with
  | nil => cases h
  | cons x chain ih =>
    unfold unlink
    rw [List.find?_cons] at h
    by_cases hx : x.key = k
    · simp only [hx, beq_self_eq_true, Option.some.injEq] at h
      rw [if_pos hx, h]
      rfl
    · rw [beq_false_of_ne hx] at h
      rw [if_neg hx]
      exact (List.Perm.swap ..).trans ((ih h).cons _)

/-- R124: removal takes the key out of its home's keys. -/
theorem CensusTable.remove_rehomed (k : Key) (t : CensusTable) :
    t.Rehomed (t.remove k) k.home ((homeKeys t.home[k.home]).erase k) := by
  unfold CensusTable.remove
  split
  · rename_i h
    have := t.rehomed_self k.home
    rwa [h] at this ⊢
  · rename_i h he
    rw [he]
    split
    · rename_i hkey
      have herase : (homeKeys (some h)).erase k = h.chain.map ChainLink.key := by simp [homeKeys, hkey]
      rw [herase]
      split
      · rename_i hchain
        rw [hchain]
        exact CensusTable.rehomed_setHome (h := none) (by rw [he, homeLinks, homeLinks, hchain]; rfl)
      · rename_i l ls hchain
        rw [hchain]
        refine CensusTable.rehomed_setHome (h := some { key := l.key, chain := ls }) ?_
        rw [he, homeLinks, homeLinks, hchain]
        exact List.perm_middle
    · rename_i hkey
      have herase : (homeKeys (some h)).erase k = homeKeys (some { h with chain := unlink k h.chain }) := by
        rw [homeKeys, homeKeys, unlink_keys, List.erase_cons_tail (by simpa using hkey)]
      split
      · rename_i l hl
        rw [herase]
        refine CensusTable.rehomed_setHome ?_
        rw [he, homeLinks, homeLinks]
        exact List.perm_middle.trans ((unlink_entries hl).append_right _)
      · rename_i hnone
        have habsent : k ∉ homeKeys (some h) := by
          rw [List.find?_eq_none] at hnone
          simpa [homeKeys, Ne.symm hkey] using hnone
        have := t.rehomed_self k.home
        rwa [he, ← List.erase_of_not_mem habsent] at this

theorem CensusTable.present_remove_of_ne {k other : Key} (hne : other ≠ k) (t : CensusTable) :
    (t.remove k).present other = t.present other := by
  rw [Bool.eq_iff_iff, (t.remove_rehomed k).present_iff]
  split
  · rename_i hhome
    rw [CensusTable.present_iff hhome, List.mem_erase_of_ne hne]
  · rfl

/-- R124: in a table that holds each key once, the key removed is absent afterwards. -/
theorem CensusTable.Sound.present_remove {own : Member} {t : CensusTable} (h : t.Sound own) (k : Key) :
    (t.remove k).present k = false := by
  rw [Bool.eq_false_iff, Ne, (t.remove_rehomed k).present_iff, if_pos rfl]
  exact (h.2 k.home).1.not_mem_erase

theorem CensusTable.Sound.remove {own : Member} {t : CensusTable} (h : t.Sound own) (k : Key) : (t.remove k).Sound own :=
  have ⟨hnodup, hkeys⟩ := h.2 k.home
  (t.remove_rehomed k).sound h (hnodup.erase k) fun x hx => hkeys x (List.mem_of_mem_erase hx)

/-! ### Clearing (R128) -/

/-- R128: the home entry is vacant, and its chain's entries lie on the free stack, the last of them on top. -/
theorem CensusTable.clearHome_eq (i : Fin 128) (t : CensusTable) :
    t.clearHome i = { t.setHome i none with free := (homeLinks t.home[i]).reverse ++ t.free } := by
  unfold CensusTable.clearHome
  split
  · rename_i h
    have hset : t.setHome i none = t := by
      rw [CensusTable.setHome, ← h]
      simp
    rw [hset, h]
    rfl
  · rename_i h he
    rw [he, List.foldl_flip_cons_eq_append]
    rfl

theorem CensusTable.clearHome_rehomed (i : Fin 128) (t : CensusTable) : t.Rehomed (t.clearHome i) i [] := by
  rw [CensusTable.clearHome_eq]
  exact CensusTable.rehomed_setHome (h := none) ((List.reverse_perm _).append_right _)

theorem CensusTable.clearHome_home (i j : Fin 128) (t : CensusTable) :
    (t.clearHome i).home[j] = if i = j then none else t.home[j] := by
  rw [CensusTable.clearHome_eq]
  exact CensusTable.setHome_home ..

theorem CensusTable.Sound.clearHome {own : Member} {t : CensusTable} (h : t.Sound own) (i : Fin 128) :
    (t.clearHome i).Sound own := (t.clearHome_rehomed i).sound h List.nodup_nil nofun

end Sys2Proof.Machine
end

section
/-! SUPPORT. The part of the state that the census tables' invariant reads, and the operations that leave it alone. -/

namespace Sys2Proof.Machine

open Sys2Proof

/-- The census tables, their roles, the clearing and the held rotation, and whose node it is: what R120 to R129 are of. -/
def State.registry (s : State) : Vector CensusTable 3 × Roles × Option (Fin 128) × Bool × Member :=
  (s.census.tables, s.census.roles, s.census.clearing, s.census.held, s.clock.member)

/-- It stands with the Census and the clock. -/
theorem State.registry_congr {s t : State} (hcensus : t.census = s.census) (hclock : t.clock = s.clock) :
    t.registry = s.registry := by
  rw [State.registry, hcensus, hclock]
  rfl

/-- A fold of operations that leave it alone leaves it alone. -/
theorem State.registry_foldl {α : Type} {f : State → α → State} (hf : ∀ t a, (f t a).registry = t.registry) (l : List α)
    (s : State) : (l.foldl f s).registry = s.registry := by
  induction l generalizing s with
  | nil => rfl
  | cons a l ih => rw [List.foldl_cons, ih, hf]

section
variable (s : State)

/-! ### The primitive updates -/

@[simp] theorem State.registry_mapStrips (f : StripNo → Strip → Strip) : (s.mapStrips f).registry = s.registry :=
  State.registry_congr (s.mapStrips_census f) (s.mapStrips_clock f)
@[simp] theorem State.registry_setUnit (u : UnitNo) (c : CaptureUnit) : (s.setUnit u c).registry = s.registry := rfl
@[simp] theorem State.registry_setGroup (g : GroupNo) (e : GroupEntry) : (s.setGroup g e).registry = s.registry := rfl
@[simp] theorem State.registry_latchNode (e : NoticeEvent) : (s.latchNode e).registry = s.registry := rfl
@[simp] theorem State.registry_latchStrips (f : StripNo → List NoticeEvent) : (s.latchStrips f).registry = s.registry :=
  State.registry_congr (s.latchStrips_census f) (s.latchStrips_clock f)
@[simp] theorem State.registry_offer (m : OutMsg) : (s.offer m).registry = s.registry :=
  State.registry_congr (s.offer_census m) (s.offer_clock m)
@[simp] theorem State.registry_announce (b : Body) : (s.announce b).registry = s.registry := State.registry_offer ..
@[simp] theorem State.registry_refuse (source : Member) (kind object : Byte) (reason : Reason) :
    (s.refuse source kind object reason).registry = s.registry := State.registry_offer ..
@[simp] theorem State.registry_begun : s.begun.registry = s.registry := by simp [State.registry]

@[simp] theorem State.registry_setStripEffective (n : StripNo) (length : Nat) (st : Strip) :
    (s.setStripEffective n length st).registry = s.registry := by
  unfold State.setStripEffective
  split <;> rfl

/-! ### Commands by the object they name (R26, R100) -/

theorem State.registry_stripCommand (source : Member) (kind strip : Byte) {act : StripNo → State → State}
    (hact : ∀ n, (act n s).registry = s.registry) : (s.stripCommand source kind strip act).registry = s.registry := by
  unfold State.stripCommand
  split
  · exact hact _
  · exact s.registry_refuse ..

theorem State.registry_stripsCommand (source : Member) (kind strip : Byte) {act : StripNo → State → State}
    (hact : ∀ n t, (act n t).registry = t.registry) : (s.stripsCommand source kind strip act).registry = s.registry := by
  unfold State.stripsCommand
  split
  · exact State.registry_foldl (fun t n => hact n t) _ _
  · exact s.registry_stripCommand _ _ _ fun n => hact n s

theorem State.registry_unitCommand (source : Member) (kind unit : Byte) {act : UnitNo → State → State}
    (hact : ∀ u, (act u s).registry = s.registry) : (s.unitCommand source kind unit act).registry = s.registry := by
  unfold State.unitCommand
  split
  · exact hact _
  · exact s.registry_refuse ..

theorem State.registry_announced (source : Member) (group strip : Byte) {act : GroupNo → Key → State → State}
    (hact : ∀ g k, (act g k s).registry = s.registry) : (s.announced source group strip act).registry = s.registry := by
  unfold State.announced
  split
  · exact hact ..
  · rfl

/-! ### STRIP SET, MUTE GROUP and PLACE (chapters 2 and 3) -/

@[simp] theorem State.registry_actStripSet (source : Member) (f : StripSetFields) :
    (s.actStripSet source f).registry = s.registry := by
  unfold State.actStripSet
  split
  · exact s.registry_refuse ..
  · refine s.registry_stripsCommand _ _ _ fun n t => ?_
    rw [State.applyStripSet_frame]
    rfl

@[simp] theorem State.registry_actMuteGroup (source : Member) (group state : Byte) :
    (s.actMuteGroup source group state).registry = s.registry := by
  unfold State.actMuteGroup
  split
  · exact State.registry_mapStrips ..
  · exact s.registry_refuse ..

@[simp] theorem State.registry_actPlace (source : Member) (f : PlaceFields) :
    (s.actPlace source f).registry = s.registry := by
  have hcommit (t : State) (n : StripNo) (taps : List Tap) : (t.commit n taps).registry = t.registry := by
    unfold State.commit
    dsimp only
    split_ifs <;> rfl
  unfold State.actPlace
  split
  · exact s.registry_refuse ..
  · split
    · unfold State.takePlace
      dsimp only
      split_ifs
      · exact hcommit ..
      · rfl
      · exact hcommit ..
    · exact State.registry_refuse ..

/-! ### Cues and the transport (chapter 6) -/

@[simp] theorem State.registry_actCue (source : Member) (f : CueFields) : (s.actCue source f).registry = s.registry := by
  refine s.registry_stripCommand _ _ _ fun n => ?_
  have hoffered : (s.offerCueTo n (formCue f)).registry = s.registry := by
    rw [State.offerCueTo_frame]
    rfl
  unfold State.takeCue
  split_ifs
  · rfl
  · rfl
  all_goals exact hoffered

@[simp] theorem State.registry_actCueFlush (source : Member) (strip : Byte) :
    (s.actCueFlush source strip).registry = s.registry := s.registry_stripsCommand _ _ _ fun _ _ => rfl

@[simp] theorem State.registry_takeReference (position : Position) (rolling valid : Bool) :
    (s.takeReference position rolling valid).registry = s.registry := by
  have hfaulted : (if valid then s else s.latchNode .positionFault).registry = s.registry := by split <;> rfl
  have hmoved (t : State) (p c : Bool) (q : Position) (r : Bool) : (t.moved p c q r).registry = t.registry := by
    rw [(t.moved_frame p c q r).frame]
    rfl
  exact (hmoved ..).trans hfaulted

/-! ### Groups, touch edges and faders (chapters 6 and 8) -/

@[simp] theorem State.registry_handOn (g : GroupNo) : (s.handOn g).registry = s.registry := by
  rw [State.handOn_eq]
  rfl

@[simp] theorem State.registry_groupTouch (n : StripNo) : (s.groupTouch n).registry = s.registry := by
  unfold State.groupTouch
  split
  · split
    · exact State.registry_announce ..
    · rfl
  · rfl

@[simp] theorem State.registry_captureEdge (n : StripNo) (mark : Byte) : (s.captureEdge n mark).registry = s.registry := by
  rw [State.captureEdge_frame]
  rfl

@[simp] theorem State.registry_releaseIfLead (g : Option GroupNo) (n : StripNo) :
    (s.releaseIfLead g n).registry = s.registry := by
  obtain ⟨_, _, _, _, h⟩ := s.releaseIfLead_cases g n
  rw [h]
  rfl

@[simp] theorem State.registry_actTouch (source : Member) (strip touched : Byte) :
    (s.actTouch source strip touched).registry = s.registry := by
  refine s.registry_stripCommand _ _ _ fun n => ?_
  have hedged (st : Strip) : (s.setStrip n st).registry = s.registry := rfl
  unfold State.touchOn State.touchOff
  dsimp only
  split_ifs <;> simp [hedged]

@[simp] theorem State.registry_actFader (source : Member) (strip : Byte) (level : BitVec 16) :
    (s.actFader source strip level).registry = s.registry := by
  refine s.registry_stripCommand _ _ _ fun n => ?_
  unfold State.moveFader
  split
  · rfl
  · rw [State.handMove_eq]
    exact s.registry_setStripEffective ..

@[simp] theorem State.registry_actGroupClaim (source : Member) (group strip : Byte) :
    (s.actGroupClaim source group strip).registry = s.registry := by
  refine s.registry_announced _ _ _ fun g k => ?_
  unfold State.takeClaim
  split
  · rfl
  · split_ifs <;> rfl

@[simp] theorem State.registry_actGroupRelease (source : Member) (group strip : Byte) :
    (s.actGroupRelease source group strip).registry = s.registry := by
  refine s.registry_announced _ _ _ fun g k => ?_
  unfold State.takeRelease
  split
  · exact State.registry_handOn ..
  · rfl

@[simp] theorem State.registry_actGroupDelta (source : Member) (group strip : Byte) (change : BitVec 16) :
    (s.actGroupDelta source group strip change).registry = s.registry := by
  refine s.registry_announced _ _ _ fun g k => ?_
  unfold State.takeDelta
  split
  · rw [State.registry_setGroup, State.applyDelta, State.registry_latchStrips, State.registry_mapStrips]
  · rfl

/-! ### Solo, aging and the refresh walk (chapter 7) -/

@[simp] theorem State.registry_judgeSolo : s.judgeSolo.registry = s.registry := by
  unfold State.judgeSolo
  split
  · rfl
  · exact State.registry_mapStrips ..

@[simp] theorem State.registry_soloChanged (n : StripNo) : (s.soloChanged n).registry = s.registry := by
  unfold State.soloChanged
  split
  · rfl
  · exact s.registry_judgeSolo

@[simp] theorem State.registry_actSolo (source : Member) (strip state : Byte) :
    (s.actSolo source strip state).registry = s.registry := by
  refine s.registry_stripsCommand _ _ _ fun n t => ?_
  unfold State.soloStrip State.unsoloStrip
  split_ifs
  · rfl
  · rw [State.registry_soloChanged, State.registry_announce]
    rfl
  · rw [State.registry_soloChanged, State.registry_announce]
    rfl
  · rfl

@[simp] theorem State.registry_ageGroups : s.ageGroups.registry = s.registry := by
  refine State.registry_foldl (fun t g => ?_) _ _
  unfold State.ageGroup
  split
  · rfl
  · split_ifs
    · rfl
    · exact State.registry_handOn ..
    · rfl

@[simp] theorem State.registry_markSoloed : s.markSoloed.registry = s.registry := by
  simp only [State.markSoloed, State.registry]

@[simp] theorem State.registry_takeMark : s.takeMark.registry = s.registry := by
  unfold State.takeMark State.claimRefresh
  split
  · exact State.registry_announce ..
  · split
    · split
      · split
        · exact State.registry_announce ..
        · rfl
      · rfl
    · rfl

/-! ### Capture units (chapter 9) -/

@[simp] theorem State.registry_releaseBinding (u : UnitNo) : (s.releaseBinding u).registry = s.registry := by
  rw [State.releaseBinding_eq]
  rfl

@[simp] theorem State.registry_finish (u : UnitNo) (q : Position) (flags condition : Byte) :
    (s.finish u q flags condition).registry = s.registry := State.registry_releaseBinding ..

@[simp] theorem State.registry_endDrain (u : UnitNo) : (s.endDrain u).registry = s.registry := by
  rw [State.endDrain_eq]
  rfl

@[simp] theorem State.registry_endEmpty (u : UnitNo) (conditions : Byte) : (s.endEmpty u conditions).registry = s.registry :=
  (State.registry_endDrain ..).trans (State.registry_releaseBinding ..)

@[simp] theorem State.registry_actCaptureStart (source : Member) (f : CaptureStartFields) :
    (s.actCaptureStart source f).registry = s.registry := by
  have hsample (t : State) (u : UnitNo) (q : Position) : (t.sample u q).registry = t.registry := by
    unfold State.sample
    dsimp only
    split_ifs
    · exact State.registry_finish ..
    · rfl
    · rfl
  have harmed (u : UnitNo) (settings : CaptureSettings) : (s.startArmed u settings).registry = s.registry := by
    unfold State.startArmed
    dsimp only
    split
    · exact hsample ..
    · rfl
  unfold State.actCaptureStart
  split
  · split_ifs <;> simp [State.startEnded, harmed]
  · exact s.registry_refuse ..

@[simp] theorem State.registry_actCaptureStop (source : Member) (unit : Byte) :
    (s.actCaptureStop source unit).registry = s.registry := by
  refine s.registry_unitCommand _ _ _ fun u => ?_
  unfold State.stopUnit
  split
  case h_1 | h_2 => exact s.registry_finish ..
  case h_3 => exact s.registry_endEmpty ..
  all_goals exact s.registry_refuse ..

@[simp] theorem State.registry_actCaptureSuspend (source : Member) (unit : Byte) :
    (s.actCaptureSuspend source unit).registry = s.registry := by
  refine s.registry_unitCommand _ _ _ fun u => ?_
  unfold State.suspendUnit
  split
  · rfl
  · exact s.registry_refuse ..

@[simp] theorem State.registry_actCaptureResume (source : Member) (unit : Byte) :
    (s.actCaptureResume source unit).registry = s.registry := by
  refine s.registry_unitCommand _ _ _ fun u => ?_
  unfold State.resumeUnit
  split
  · rfl
  · exact s.registry_refuse ..

@[simp] theorem State.registry_actCaptureClear (source : Member) (unit : Byte) :
    (s.actCaptureClear source unit).registry = s.registry := by
  refine s.registry_unitCommand _ _ _ fun u => ?_
  unfold State.clearUnit
  split
  case h_1 | h_2 | h_3 => exact s.registry_endEmpty ..
  case h_4 => exact State.registry_releaseBinding ..
  all_goals rfl

@[simp] theorem State.registry_packingTurn (u : UnitNo) : (s.packingTurn u).registry = s.registry := by
  have hheld (t : State) : (t.offerHeldEnd u).registry = t.registry := by
    unfold State.offerHeldEnd
    dsimp only
    split
    · split
      · exact State.registry_offer ..
      · rfl
    · rfl
  have hwork (t : State) : (t.turnWork u).registry = t.registry := by
    unfold State.turnWork
    dsimp only
    split
    · exact hheld t
    · split_ifs <;> simp [State.pack]
  exact hwork _

/-! ### Messages, periods, emission and outputs (chapters 1, 4, 5 and 11) -/

@[simp] theorem State.registry_loseEntries (n : Nat) : (s.loseEntries n).registry = s.registry := by
  induction n generalizing s with
  | zero => rfl
  | succ n ih => exact ih _

@[simp] theorem State.registry_ownReturn (kind : Byte) : (s.ownReturn kind).registry = s.registry := by
  unfold State.ownReturn
  split
  · exact State.registry_loseEntries ..
  · split <;> rfl

@[simp] theorem State.registry_timeoutEntries : s.timeoutEntries.registry = s.registry := State.registry_loseEntries ..

@[simp] theorem State.registry_insert : s.insert.registry = s.registry := by
  obtain ⟨_, _, _, h, -⟩ := s.insert_cases
  rw [h]
  rfl

@[simp] theorem State.registry_emit : s.emit.registry = s.registry := by
  calc s.emit.registry = s.insert.handOffs.registry := rfl
    _ = s.insert.registry := by
      unfold State.handOffs
      split
      · exact State.registry_congr (State.latchAnchors_census ..) (State.latchAnchors_clock ..)
      · rfl
    _ = s.registry := s.registry_insert

@[simp] theorem State.registry_processOutputs : s.processOutputs.registry = s.registry := by
  rw [State.processOutputs_frame]
  rfl

@[simp] theorem State.registry_closePeriod : s.closePeriod.registry = s.registry := by
  rw [State.closePeriod_eq]
  rfl

@[simp] theorem State.registry_openPeriod : s.openPeriod.registry = s.registry := rfl

@[simp] theorem State.registry_lockEdge : s.lockEdge.registry = s.registry := by
  unfold State.lockEdge
  split <;> rfl

@[simp] theorem State.registry_countGood : s.countGood.registry = s.registry := by
  unfold State.countGood
  split <;> rfl

@[simp] theorem State.registry_processSamples (samples : List Sample) :
    (s.processSamples samples).registry = s.registry := by
  rw [State.processSamples_eq]
  rfl

@[simp] theorem State.registry_profileTaken (l : ProfileLoad) : (s.profileTaken l).registry = s.registry := by
  rw [State.profileTaken, State.registry_foldl fun _ _ => State.registry_latchNode ..]
  simp [State.registry]

@[simp] theorem State.registry_actOutputSet (source : Member) (f : OutputSetFields) :
    (s.actOutputSet source f).registry = s.registry := by
  unfold State.actOutputSet
  split
  · rfl
  · split
    · exact s.registry_refuse ..
    · split
      · rfl
      · exact s.registry_refuse ..

/-! ### Reports and queries (chapters 5 and 10) -/

@[simp] theorem State.registry_meterReports : s.meterReports.registry = s.registry := by
  rw [State.meterReports_frame]
  rfl

@[simp] theorem State.registry_visit (src : SourceNo) : (s.visit src).registry = s.registry := by
  unfold State.visit
  split
  · exact State.registry_offer ..
  · rfl

theorem State.registry_answer (source : Member) (item : QueryItem) (object : Byte) (shares : List ReplyShare)
    {after : State → State} (hafter : ∀ t, (after t).registry = t.registry) :
    (s.answer source item object shares after).registry = s.registry := by
  unfold State.answer
  split
  · exact s.registry_refuse ..
  · rw [hafter, State.registry_foldl fun t _ => State.registry_offer ..]

section
variable (source : Member) (object : Byte)

@[simp] theorem State.registry_actQueryStrip : (s.actQueryStrip source object).registry = s.registry := by
  unfold State.actQueryStrip
  split
  · exact State.registry_answer _ _ _ _ _ fun _ => rfl
  · exact State.registry_refuse ..

@[simp] theorem State.registry_actQueryCues : (s.actQueryCues source object).registry = s.registry := by
  unfold State.actQueryCues
  split
  · exact State.registry_answer _ _ _ _ _ fun _ => rfl
  · exact State.registry_refuse ..

@[simp] theorem State.registry_actQueryCensus : (s.actQueryCensus source object).registry = s.registry :=
  State.registry_answer _ _ _ _ _ fun _ => rfl

@[simp] theorem State.registry_actQueryGroup : (s.actQueryGroup source object).registry = s.registry := by
  unfold State.actQueryGroup
  split
  · exact State.registry_answer _ _ _ _ _ fun _ => rfl
  · exact State.registry_refuse ..

@[simp] theorem State.registry_actQueryCapture : (s.actQueryCapture source object).registry = s.registry := by
  unfold State.actQueryCapture
  split
  · exact State.registry_answer _ _ _ _ _ fun _ => rfl
  · exact State.registry_refuse ..

@[simp] theorem State.registry_actQueryAnchor : (s.actQueryAnchor source object).registry = s.registry := by
  unfold State.actQueryAnchor
  split
  · exact State.registry_answer _ _ _ _ _ fun _ => rfl
  · exact State.registry_refuse ..

@[simp] theorem State.registry_actQueryCounters (clear : Byte) :
    (s.actQueryCounters source object clear).registry = s.registry := by
  refine State.registry_answer _ _ _ _ _ fun t => ?_
  split <;> rfl

@[simp] theorem State.registry_actQuery (item clear : Byte) :
    (s.actQuery source item object clear).registry = s.registry := by
  unfold State.actQuery
  split <;> simp [State.refuseQuery]

end

end

end Sys2Proof.Machine
end

section
/-! O56: every command keeps the census tables sound. -/

namespace Sys2Proof.Machine

open Sys2Proof

/-- R121: each role is held by a table of its own. -/
def Roles.Apart (r : Roles) : Prop := r.current ≠ r.next ∧ r.next ≠ r.empty ∧ r.current ≠ r.empty

theorem Roles.Apart.rotate {r : Roles} (h : r.Apart) : r.rotate.Apart := ⟨h.2.1, h.2.2.symm, h.1.symm⟩

/-- `State.CensusSound` with its parts named. -/
structure State.CensusKept (s : State) : Prop where
  tables : ∀ i, (s.table i).Sound s.clock.member
  roles : s.census.roles.Apart
  cleared : s.emptyCleared
  held : s.census.held = true → s.census.clearing.isSome = true

theorem State.censusKept_iff (s : State) : s.CensusKept ↔ s.CensusSound := by
  constructor
  · rintro ⟨tables, roles, cleared, held⟩
    exact ⟨tables, roles, cleared, held⟩
  · rintro ⟨tables, roles, cleared, held⟩
    exact ⟨tables, roles, cleared, held⟩

/-- R121, R168, R171: a reset leaves three vacant tables, whosever node it is. -/
theorem State.censusKept_of_reset {s : State} (h : s.census = Census.reset) : s.CensusKept := by
  have htable (i : Fin 3) : s.table i = CensusTable.vacant := by rw [State.table, h]; exact State.table_reset i
  refine ⟨fun i => ?_, ?_, fun i _ => ?_, ?_⟩
  · rw [htable]
    exact CensusTable.vacant_sound _
  · rw [h]
    exact State.reset_censusSound.2.1
  · rw [htable]
    exact CensusTable.vacant_home i
  · rw [h]
    nofun

/-- R127: a rotation begins clearing at home entry 0, so nothing need be vacant yet. -/
theorem State.rotate_censusKept {s : State} (htables : ∀ i, (s.table i).Sound s.clock.member) (hroles : s.census.roles.Apart) :
    s.rotate.CensusKept := by
  have hregistry : s.rotate.registry =
      (s.census.tables, s.census.roles.rotate, some 0, s.census.held, s.clock.member) := State.registry_judgeSolo _
  simp only [State.registry, Prod.mk.injEq] at hregistry
  obtain ⟨htables', hroles', hclearing, hheld, hmember⟩ := hregistry
  refine ⟨fun i => ?_, ?_, fun i hi => ?_, fun _ => ?_⟩
  · rw [State.table, htables', hmember]
    exact htables i
  · rw [hroles']
    exact hroles.rotate
  · exact absurd (hi 0 hclearing) (Fin.not_lt_zero i)
  · rw [hclearing]
    rfl

section
variable {s : State} (h : s.CensusKept)
include h

/-! ### What keeps the tables sound -/

theorem State.CensusKept.of_registry {t : State} (e : t.registry = s.registry) : t.CensusKept := by
  simp only [State.registry, Prod.mk.injEq] at e
  obtain ⟨htables, hroles, hclearing, hheld, hmember⟩ := e
  have htable (i : Fin 3) : t.table i = s.table i := by rw [State.table, htables]; rfl
  refine ⟨fun i => ?_, hroles ▸ h.roles, fun i hi => ?_, fun hon => ?_⟩
  · rw [htable, hmember]
    exact h.tables i
  · rw [hroles, htable]
    exact h.cleared i (hclearing ▸ hi)
  · rw [hclearing]
    exact h.held (hheld ▸ hon)

/-- A step under a condition, and otherwise nothing. -/
theorem State.CensusKept.ite {t : State} {p : Prop} [Decidable p] (ht : p → t.CensusKept) :
    (if p then t else s).CensusKept := by
  split
  · exact ht ‹_›
  · exact h

/-- R82, R85: a message acted on is another member's. -/
theorem State.CensusKept.whenActing (source : Member) {act : State → State}
    (hact : source ≠ s.clock.member → (act s).CensusKept) : (s.whenActing source act).CensusKept :=
  h.ite fun hacts => hact fun e => by simp [e] at hacts

/-- R120: a table other than the Empty one may change as long as it stays sound. -/
theorem State.CensusKept.mapTable {i : Fin 3} {f : CensusTable → CensusTable} (hi : i ≠ s.census.roles.empty)
    (hf : (f (s.table i)).Sound s.clock.member) : (s.mapTable i f).CensusKept where
  tables j := by
    rw [State.table_mapTable]
    split
    · rename_i e
      exact e ▸ hf
    · exact h.tables j
  roles := h.roles
  cleared j hj := by
    rw [State.mapTable_census_roles, State.table_mapTable, if_neg hi]
    exact h.cleared j hj
  held := h.held

/-! ### Announcements of other members (R120, R123, R124) -/

omit h in
/-- R123: what is counted and latched of a key not learned is no part of the Census. -/
theorem State.registry_learnIn (i : Fin 3) (k : Key) (s : State) :
    (s.learnIn i k).registry = (s.mapTable i (CensusTable.learn k)).registry := by
  unfold State.learnIn
  dsimp only
  split <;> rfl

theorem State.CensusKept.learnIn {i : Fin 3} {k : Key} (hi : i ≠ s.census.roles.empty) (hk : k.member ≠ s.clock.member) :
    (s.learnIn i k).CensusKept := (h.mapTable hi ((h.tables i).learn hk)).of_registry (s.registry_learnIn i k)

theorem State.CensusKept.learnKey {k : Key} (hk : k.member ≠ s.clock.member) : (s.learnKey k).CensusKept := by
  obtain ⟨-, hne, hce⟩ := h.roles
  have hfirst := h.learnIn (k := k) hce hk
  have hregistry := s.registry_learnIn s.census.roles.current k
  simp only [State.registry, Prod.mk.injEq] at hregistry
  obtain ⟨-, hroles, -, -, hmember⟩ := hregistry
  have hsecond := hfirst.learnIn (i := s.census.roles.next) (k := k) (by rw [hroles]; exact hne) (by rw [hmember]; exact hk)
  exact hsecond.of_registry (State.registry_judgeSolo _)

theorem State.CensusKept.removeKey (k : Key) : (s.removeKey k).CensusKept := by
  obtain ⟨-, hne, hce⟩ := h.roles
  have hfirst := h.mapTable hce ((h.tables _).remove k)
  exact (hfirst.mapTable (f := CensusTable.remove k) hne ((hfirst.tables _).remove k)).of_registry (State.registry_judgeSolo _)

/-- R120: an announcement is of a key of its source. -/
theorem State.CensusKept.soloAnnounced (source : Member) (strip : Byte) {act : Key → State → State}
    (hact : ∀ n, (act { member := source, strip := n } s).CensusKept) : (s.soloAnnounced source strip act).CensusKept := by
  unfold State.soloAnnounced
  split
  · exact hact _
  · exact h

/-! ### Aging and clearing (R125 to R129) -/

theorem State.CensusKept.restartAging : s.restartAging.CensusKept := by
  have hrestarted : ({ s with census.agingCount := 0 } : State).CensusKept := h.of_registry rfl
  have hrotated : ({ s with census.agingCount := 0 } : State).rotateOrHold.CensusKept := by
    unfold State.rotateOrHold
    split
    · rename_i hclearing
      exact ⟨h.tables, h.roles, h.cleared, fun _ => hclearing⟩
    · exact State.rotate_censusKept hrestarted.tables hrestarted.roles
  exact hrotated.of_registry ((State.registry_markSoloed _).trans (State.registry_ageGroups _))

/-- R128: a turn at the home entry that clearing has reached leaves every home entry up to it vacant. -/
theorem State.CensusKept.clearStep {i : Fin 128} (hi : s.census.clearing = some i) : (s.clearStep i).CensusKept := by
  have htables (j : Fin 3) : ((s.mapTable s.census.roles.empty (CensusTable.clearHome i)).table j).Sound s.clock.member := by
    rw [State.table_mapTable]
    split
    · exact (h.tables j).clearHome i
    · exact h.tables j
  have hvacant (j : Fin 128) (hj : j ≤ i) :
      ((s.mapTable s.census.roles.empty (CensusTable.clearHome i)).table s.census.roles.empty).home[j] = none := by
    rw [State.table_mapTable, if_pos rfl, CensusTable.clearHome_home]
    split
    · rfl
    · rename_i hne
      refine h.cleared j fun next hnext => ?_
      rw [hi, Option.mem_some] at hnext
      exact hnext ▸ lt_of_le_of_ne hj (Ne.symm hne)
  unfold State.clearStep
  dsimp only
  split
  · refine ⟨htables, h.roles, fun j hj => hvacant j ?_, fun _ => rfl⟩
    have := hj _ rfl
    simp only [Fin.lt_def, Fin.le_def] at this ⊢
    omega
  · unfold State.clearingDone
    split
    · exact State.rotate_censusKept htables h.roles
    · rename_i hheld
      exact ⟨htables, h.roles, fun j _ => hvacant j (by simp only [Fin.le_def]; omega), fun hon => absurd hon hheld⟩

/-! ### Messages and arrivals (R82 to R85) -/

theorem State.CensusKept.act (kind : Byte) {source : Member} (hsource : source ≠ s.clock.member) (p : List Byte) :
    (s.act kind source p).CensusKept := by
  unfold State.act
  split
  case h_17 => exact h.restartAging
  case h_18 => exact State.censusKept_of_reset rfl
  case h_22 | h_23 => exact h.soloAnnounced _ _ fun n => h.learnKey hsource
  case h_24 => exact h.soloAnnounced _ _ fun n => h.removeKey _
  all_goals refine h.of_registry ?_
  case h_16 | h_25 => rfl
  all_goals simp

omit h in
/-- R82: a slot classed as another member's message does not name this node as its source. -/
theorem classify_other_ne {member source : Member} {slot : Option Message} {m : Message}
    (h : classify member slot = .other source m) : source ≠ member := by
  unfold classify at h
  split at h
  · cases h
  · split at h
    · cases h
    · split_ifs at h with hown hstray
      cases h
      exact hown

theorem State.CensusKept.takeSlot {c : SlotCase} (hc : ∀ source m, c = .other source m → source ≠ s.clock.member) :
    (s.takeSlot c).CensusKept := by
  unfold State.takeSlot
  split
  · exact h
  · exact h.ite fun _ => h.of_registry (s.registry_ownReturn _)
  · exact h.of_registry rfl
  · exact h.ite fun _ => h.act _ (hc _ _ rfl) _

theorem State.CensusKept.arrival (bytes : List Byte) : (s.arrival bytes).CensusKept := by
  unfold State.arrival
  split
  · exact h.of_registry rfl
  · split
    · have hplaced : (s.placeArrival bytes).CensusKept := h.of_registry rfl
      have htaken := hplaced.takeSlot (c := classify s.clock.member (frameSlot bytes)) fun _ _ => classify_other_ne
      exact htaken.ite fun _ => htaken.of_registry (State.registry_countGood _)
    · exact h.of_registry rfl

/-! ### Commands -/

theorem State.CensusKept.begun_emit : s.begun.emit.CensusKept :=
  h.of_registry ((State.registry_emit _).trans s.registry_begun)

theorem execWordClockEdge_censusKept (e : Edge) : ∃ t, execWordClockEdge e s = .next t ∧ t.CensusKept := by
  refine ⟨_, rfl, ?_⟩
  split
  case h_1 | h_2 => exact h
  case h_3 => exact h.of_registry s.registry_lockEdge
  case h_6 | h_7 => exact h.of_registry (by simp)
  all_goals exact h.of_registry rfl

theorem execRefreshWalkTurn_censusKept : ∃ t, execRefreshWalkTurn s = .next t ∧ t.CensusKept := by
  have hturned : ({ s with clock.taken.walked := true } : State).CensusKept := h.of_registry rfl
  exact ⟨_, rfl, h.ite fun _ => hturned.ite fun _ => hturned.of_registry (State.registry_takeMark _)⟩

theorem execMeterEvent_censusKept : ∃ t, execMeterEvent s = .next t ∧ t.CensusKept := by
  have hrestarted : ({ s with reports.meterCount := 0 } : State).CensusKept := h.of_registry rfl
  exact ⟨_, rfl, h.ite fun _ => hrestarted.ite fun _ => hrestarted.of_registry (State.registry_meterReports _)⟩

theorem execCensusClearing_censusKept : ∃ t, execCensusClearing s = .next t ∧ t.CensusKept := by
  refine ⟨_, rfl, ?_⟩
  split
  · rename_i hi
    exact h.ite fun _ => h.clearStep hi
  · exact h

/-- Every command answers a state with its census tables sound. -/
theorem exec_censusKept (c : Instr) : ∃ t, exec c s = .next t ∧ t.CensusKept := by
  have hwhen {t : State} {p : Prop} [Decidable p] (e : t.registry = s.registry) : (if p then t else s).CensusKept :=
    h.ite fun _ => h.of_registry e
  have hact {act : State → State} (source : Member) (e : (act s).registry = s.registry) :
      (s.whenActing source act).CensusKept := h.whenActing source fun _ => h.of_registry e
  cases c with
  | powerReset => exact ⟨_, rfl, State.censusKept_of_reset rfl⟩
  | powerResetRelease straps => exact ⟨_, rfl, h.ite fun _ => State.censusKept_of_reset rfl⟩
  | profileReadEnd memory => exact ⟨_, rfl, hwhen (s.registry_profileTaken _)⟩
  | lockGained => exact ⟨_, rfl, hwhen rfl⟩
  | lossOfLock => exact ⟨_, rfl, hwhen rfl⟩
  | joining frame => exact ⟨_, rfl, h.ite fun _ => h.arrival frame⟩
  | quietWindowEnd => exact ⟨_, rfl, hwhen rfl⟩
  | frameArrival frame => exact ⟨_, rfl, h.ite fun _ => h.arrival frame⟩
  | frameEmission => exact ⟨_, rfl, h.ite fun _ => h.begun_emit⟩
  | faultBegun anchor => exact ⟨_, rfl, h.ite fun _ => h.begun_emit⟩
  | runCompleted anchor => exact ⟨_, rfl, h.ite fun _ => h.begun_emit⟩
  | realignSwitch anchor => exact ⟨_, rfl, hwhen s.registry_processOutputs⟩
  | enterRunning anchor => exact ⟨_, rfl, hwhen s.registry_processOutputs⟩
  | insertion => exact ⟨_, rfl, h.of_registry s.registry_insert⟩
  | inflightTimeout => exact ⟨_, rfl, h.of_registry s.registry_timeoutEntries⟩
  | historyAdvance => exact ⟨_, rfl, hwhen s.registry_begun⟩
  | sampleProcessing samples => exact ⟨_, rfl, hwhen (by simp)⟩
  | swapCompletion strip samples => exact ⟨_, rfl, hwhen (by simp)⟩
  | outputProcessing => exact ⟨_, rfl, hwhen s.registry_processOutputs⟩
  | referenceEvent position rolling valid => exact ⟨_, rfl, hwhen (s.registry_takeReference ..)⟩
  | keepalive unit position => exact ⟨_, rfl, hwhen (s.registry_takeReference ..)⟩
  | packingTurn unit => exact ⟨_, rfl, hwhen (s.registry_packingTurn unit)⟩
  | drainEnd unit => exact ⟨_, rfl, hwhen (s.registry_packingTurn unit)⟩
  | heldEndOffer unit => exact ⟨_, rfl, hwhen (s.registry_packingTurn unit)⟩
  | agingEvent => exact ⟨_, rfl, h.ite fun _ => h.restartAging⟩
  | leadLapse group => exact ⟨_, rfl, h.ite fun _ => h.restartAging⟩
  | censusClearing => exact execCensusClearing_censusKept h
  | clearingComplete => exact ⟨_, rfl, h.ite fun hlast => h.clearStep hlast.2⟩
  | refreshWalkTurn => exact execRefreshWalkTurn_censusKept h
  | meterEvent => exact execMeterEvent_censusKept h
  | scannerVisit => exact ⟨_, rfl, h.ite fun _ => (h.of_registry (s.registry_visit _)).of_registry rfl⟩
  | inputFramingLost port => exact ⟨_, rfl, hwhen rfl⟩
  | inputFramingGained port => exact ⟨_, rfl, hwhen rfl⟩
  | stripSet source fields => exact ⟨_, rfl, hact source (s.registry_actStripSet ..)⟩
  | place source fields => exact ⟨_, rfl, hact source (s.registry_actPlace ..)⟩
  | muteGroup source group state => exact ⟨_, rfl, hact source (s.registry_actMuteGroup ..)⟩
  | cue source fields => exact ⟨_, rfl, hact source (s.registry_actCue ..)⟩
  | cueFlush source strip => exact ⟨_, rfl, hact source (s.registry_actCueFlush ..)⟩
  | touch source strip touched => exact ⟨_, rfl, hact source (s.registry_actTouch ..)⟩
  | fader source strip level => exact ⟨_, rfl, hact source (s.registry_actFader ..)⟩
  | solo source strip state => exact ⟨_, rfl, hact source (s.registry_actSolo ..)⟩
  | soloOn source strip =>
    exact ⟨_, rfl, h.whenActing source fun hsource => h.soloAnnounced source strip fun _ => h.learnKey hsource⟩
  | soloRefresh source strip =>
    exact ⟨_, rfl, h.whenActing source fun hsource => h.soloAnnounced source strip fun _ => h.learnKey hsource⟩
  | soloOff source strip =>
    exact ⟨_, rfl, h.whenActing source fun _ => h.soloAnnounced source strip fun _ => h.removeKey _⟩
  | censusSweep source => exact ⟨_, rfl, h.whenActing source fun _ => h.restartAging⟩
  | groupClaim source group strip => exact ⟨_, rfl, hact source (s.registry_actGroupClaim ..)⟩
  | groupRelease source group strip => exact ⟨_, rfl, hact source (s.registry_actGroupRelease ..)⟩
  | groupDelta source group strip change => exact ⟨_, rfl, hact source (s.registry_actGroupDelta ..)⟩
  | captureStart source fields => exact ⟨_, rfl, hact source (s.registry_actCaptureStart ..)⟩
  | captureStop source unit => exact ⟨_, rfl, hact source (s.registry_actCaptureStop ..)⟩
  | captureSuspend source unit => exact ⟨_, rfl, hact source (s.registry_actCaptureSuspend ..)⟩
  | captureResume source unit => exact ⟨_, rfl, hact source (s.registry_actCaptureResume ..)⟩
  | captureClear source unit => exact ⟨_, rfl, hact source (s.registry_actCaptureClear ..)⟩
  | outputSet source fields => exact ⟨_, rfl, hact source (s.registry_actOutputSet ..)⟩
  | reportControl source fields => exact ⟨_, rfl, hact source rfl⟩
  | queryStrip source object clear => exact ⟨_, rfl, hact source (s.registry_actQueryStrip ..)⟩
  | queryCues source object clear => exact ⟨_, rfl, hact source (s.registry_actQueryCues ..)⟩
  | queryCensus source object clear => exact ⟨_, rfl, hact source (s.registry_actQueryCensus ..)⟩
  | queryGroup source object clear => exact ⟨_, rfl, hact source (s.registry_actQueryGroup ..)⟩
  | queryCapture source object clear => exact ⟨_, rfl, hact source (s.registry_actQueryCapture ..)⟩
  | queryAnchor source object clear => exact ⟨_, rfl, hact source (s.registry_actQueryAnchor ..)⟩
  | queryCounters source object clear => exact ⟨_, rfl, hact source (s.registry_actQueryCounters ..)⟩
  | nodeReset source => exact ⟨_, rfl, h.whenActing source fun _ => State.censusKept_of_reset rfl⟩
  | wordClockEdge edge => exact execWordClockEdge_censusKept h edge

end

/-- Settles O56: the commands that touch no table, no role and no clearing leave `State.registry`, and the others change each table by
operations that keep it sound, a table with keys of other members alone since those are the members whose messages are acted on. -/
theorem everyStepKeepsTheCensusTablesSound : Obligations.EveryStepKeepsTheCensusTablesSound := fun s t h e =>
  t.censusKept_iff.mp (step_keeps (fun _ _ h => h.of_registry rfl) (fun _ h c => exec_censusKept h c)
    (s.censusKept_iff.mpr h) e)

end Sys2Proof.Machine
end

section
/-! O38: SOLO, and solo active judged again. -/

namespace Sys2Proof.Machine

open Sys2Proof

/-! ### Solo active judged again (R118, R119) -/

/-- R119: what solo active is by the local solo count and the Current table's population. -/
theorem State.soloWanted_eq (s : State) : s.soloWanted =
    (decide (0 < s.census.localSolo) || decide (0 < (s.table s.census.roles.current).population)) := rfl

/-- A recomputation of every target reaches the strips; nothing else. -/
theorem State.retargetAll_frame (length : Nat) (s : State) :
    s.retargetAll length = { s with engine.strips := (s.retargetAll length).engine.strips } := by
  simp only [State.retargetAll, State.mapStrips]

/-- A judgement of solo active reaches it and the strips; nothing else. -/
theorem State.judgeSolo_frame (s : State) : s.judgeSolo = { s with
    engine.strips := s.judgeSolo.engine.strips, census.soloActive := s.soloWanted } := by
  unfold State.judgeSolo
  split
  · rename_i h
    rw [h]
  · exact State.retargetAll_frame ..

/-- Where solo active stands, a strip on its target is as a recomputation would leave it. -/
theorem State.eq_retarget_of_onTarget {s : State} (hwanted : s.soloWanted = s.census.soloActive) {st : Strip}
    (h : s.onTarget st) : st = st.retarget s.soloWanted s.engine.activeMutes 96 := by
  rw [hwanted]
  exact (State.retargeted_eq_self 96 h).symm

/-- R119: every strip's target is what solo active, judged again, gives it. -/
theorem State.strip_judgeSolo {s : State} {k : StripNo}
    (h : s.soloWanted = s.census.soloActive → s.onTarget (s.strip k)) :
    s.judgeSolo.strip k = (s.strip k).retarget s.soloWanted s.engine.activeMutes 96 := by
  unfold State.judgeSolo
  split
  · rename_i hwanted
    exact State.eq_retarget_of_onTarget hwanted (h hwanted)
  · rw [State.retargetAll, State.strip_mapStrips]
    rfl

/-- The judgement that follows a change of one strip's soloed field reaches solo active and the strips; nothing else. -/
theorem State.soloChanged_frame (n : StripNo) (s : State) : s.soloChanged n = { s with
    engine.strips := (s.soloChanged n).engine.strips, census.soloActive := s.soloWanted } := by
  unfold State.soloChanged
  split
  · rename_i h
    rw [h]
    rfl
  · exact s.judgeSolo_frame

/-- R118: and every strip's target is what solo active then gives it. -/
theorem State.strip_soloChanged {s : State} {n : StripNo} (h : ∀ k, k ≠ n → s.onTarget (s.strip k)) (k : StripNo) :
    (s.soloChanged n).strip k = (s.strip k).retarget s.soloWanted s.engine.activeMutes 96 := by
  unfold State.soloChanged
  split
  · rename_i hwanted
    by_cases hk : n = k
    · subst hk
      rw [State.setRetargeted, State.strip_setStrip_same, hwanted]
      rfl
    · rw [State.setRetargeted, State.strip_setStrip_ne _ hk]
      exact State.eq_retarget_of_onTarget hwanted (h k (Ne.symm hk))
  · rename_i hwanted
    exact State.strip_judgeSolo fun e => absurd e hwanted

/-! ### SOLO (R117, R118) -/

/-- R118: strip `n`'s soloed field set to another value, with the local solo count, the mark of a strip that is no longer soloed,
and the announcement. -/
def State.soloedTo (n : StripNo) (soloed : Bool) (s : State) : State :=
  { s.setStrip n { s.strip n with soloed } with
    census.localSolo := if soloed then s.census.localSolo + 1 else s.census.localSolo - 1
    census.marks := if soloed then s.census.marks else s.census.marks.set n false }.announce
      (if soloed then .soloOn n else .soloOff n)

/-- A strip command for one strip is its act. -/
theorem State.stripsCommand_of_named {source : Member} {kind strip : Byte} {n : StripNo} (h : strip.toNat = n.val)
    (act : StripNo → State → State) (s : State) : s.stripsCommand source kind strip act = act n s := by
  rw [State.stripsCommand, if_neg (ne_allStrips h), State.stripCommand, stripOf_eq_some h]

/-- SOLO for one strip. -/
theorem exec_solo {source : Member} {strip state : Byte} {n : StripNo} {s : State} (hacts : s.Acts source)
    (hstrip : strip.toNat = n.val) : exec (.solo source strip state) s =
      .next (if (s.strip n).soloed = yes state then s else (s.soloedTo n (yes state)).soloChanged n) := by
  refine next_whenActing hacts ((State.stripsCommand_of_named hstrip ..).trans ?_)
  unfold State.soloStrip State.unsoloStrip
  cases yes state <;> cases (s.strip n).soloed <;> rfl

section
variable (n : StripNo) (soloed : Bool) (s : State)

theorem State.soloedTo_frame : s.soloedTo n soloed = { s with
    engine.strips := (s.soloedTo n soloed).engine.strips
    census.localSolo := if soloed then s.census.localSolo + 1 else s.census.localSolo - 1
    census.marks := if soloed then s.census.marks else s.census.marks.set n false
    message := (s.soloedTo n soloed).message
    reports.vectors := (s.soloedTo n soloed).reports.vectors } := by
  rw [State.soloedTo, State.announce, State.offer_eq]
  rfl

theorem State.soloedTo_message :
    (s.soloedTo n soloed).message = (s.announce (if soloed then .soloOn n else .soloOff n)).message :=
  State.offer_message_congr _ rfl

theorem State.strip_soloedTo (k : StripNo) :
    (s.soloedTo n soloed).strip k = if n = k then { s.strip n with soloed } else s.strip k := by
  rw [State.soloedTo, State.announce, State.strip_offer]
  exact State.strip_setStrip ..

end

/-- R130: the refresh marks after SOLO. -/
theorem marks_soloedTo (marks : Vector Bool 32) (n : StripNo) (state : Byte) (k : StripNo) :
    (if yes state then marks else marks.set n false)[k] = (marks[k] && !(decide (k = n) && state == 0#8)) := by
  by_cases hstate : state = 0#8
  · by_cases hk : n = k
    · simp [yes, hstate, hk]
    · have hv : n.val ≠ k.val := fun e => hk (Fin.ext e)
      simp [yes, hstate, Ne.symm hk, hv]
  · simp [yes, hstate]

/-- Settles O38: the field with its count, mark and announcement, and then the judgement of solo active. -/
theorem soloChangesTheCountAndSoloActive : Obligations.SoloChangesTheCountAndSoloActive := by
  intro source strip state n s hacts hstrip htargets _
  rw [exec_solo hacts hstrip]
  have hyes : yes state = true ↔ state ≠ 0#8 := by simp [yes]
  refine ⟨fun hsame => ?_, fun hchange => ?_⟩
  · rw [if_pos (Bool.eq_iff_iff.mpr (hsame.symm.trans hyes.symm))]
  · rw [if_neg fun e => hchange (hyes.symm.trans (Bool.eq_iff_iff.mp e).symm)]
    have hframe := s.soloedTo_frame n (yes state)
    generalize hu : s.soloedTo n (yes state) = u at hframe
    have hmutes : u.engine.activeMutes = s.engine.activeMutes := by rw [hframe]
    have hsolo : u.census.soloActive = s.census.soloActive := by rw [hframe]
    have hstrips (k : StripNo) : u.strip k = if n = k then { s.strip n with soloed := yes state } else s.strip k := by
      rw [← hu, State.strip_soloedTo]
    have hothers (k : StripNo) (hk : k ≠ n) : u.onTarget (u.strip k) := by
      rw [State.onTarget, hstrips, if_neg hk.symm, hsolo, hmutes]
      exact htargets k
    have hlocal : u.census.localSolo = if state = 0#8 then s.census.localSolo - 1 else s.census.localSolo + 1 := by
      rw [hframe]
      by_cases h : state = 0#8 <;> simp [yes, h]
    have hactive := congrArg (·.census.soloActive) (u.soloChanged_frame n)
    refine ⟨_, rfl, by rw [State.soloChanged_frame, hframe], ?_, ?_, fun k => ?_, ?_, ?_⟩
    · rw [State.soloChanged_frame]
      exact hlocal
    · rw [State.soloChanged_frame, State.soloWanted_eq, hframe]
      rfl
    · rw [State.soloChanged_frame, hframe]
      exact marks_soloedTo ..
    · rw [State.soloChanged_frame, ← hu]
      refine (State.soloedTo_message ..).trans ?_
      by_cases h : state = 0#8 <;> simp [yes, h]
    · rintro k a rfl
      rw [State.strip_soloChanged hothers, hstrips, hactive, hmutes]
      simp only [@eq_comm _ n k]
      rfl

end Sys2Proof.Machine
end

section
/-! O39: SOLO ON, SOLO REFRESH and SOLO OFF. -/

namespace Sys2Proof.Machine

open Sys2Proof

/-! ### The roles -/

theorem Roles.Apart.eq_or_eq {r : Roles} (h : r.Apart) {i : Fin 3} (hi : i ≠ r.empty) : i = r.current ∨ i = r.next := by
  obtain ⟨hcn, hne, hce⟩ := h
  omega

/-- The tables that hold Current, Next and Empty are the three tables. -/
theorem Roles.Apart.perm {r : Roles} (h : r.Apart) : (List.finRange 3).Perm [r.current, r.next, r.empty] := by
  obtain ⟨current, next, empty⟩ := r
  revert h
  unfold Roles.Apart
  revert current next empty
  decide

/-! ### Both tables changed -/

/-- R120: one change of the Current and of the Next table. -/
def State.mapBoth (f : CensusTable → CensusTable) (s : State) : State :=
  (s.mapTable s.census.roles.current f).mapTable s.census.roles.next f

/-- R120: the Current and the Next table are changed once each, and the Empty table is not. -/
theorem State.table_mapBoth {s : State} (hroles : s.census.roles.Apart) (f : CensusTable → CensusTable) (i : Fin 3) :
    (s.mapBoth f).table i = if i = s.census.roles.empty then s.table i else f (s.table i) := by
  obtain ⟨hcn, hne, hce⟩ := hroles
  rw [State.mapBoth, State.table_mapTable, State.table_mapTable]
  by_cases hi : i = s.census.roles.empty
  · subst hi
    rw [if_neg hne, if_neg hce, if_pos rfl]
  · rw [if_neg hi]
    rcases Roles.Apart.eq_or_eq ⟨hcn, hne, hce⟩ hi with rfl | rfl
    · rw [if_neg hcn.symm, if_pos rfl]
    · rw [if_pos rfl, if_neg hcn]

theorem State.table_judgeSolo (s : State) (i : Fin 3) : s.judgeSolo.table i = s.table i := by
  rw [State.judgeSolo_frame]
  rfl

/-- What an announcement leaves, `u` being the state with the tables changed in which solo active is judged again. -/
structure State.Announced (s u : State) (f : CensusTable → CensusTable) : Prop where
  frame : u = { s with
    census.tables := u.census.tables
    message.counters.censusOverflow := u.message.counters.censusOverflow
    reports.vectors := u.reports.vectors }
  table : ∀ i, u.table i = if i = s.census.roles.empty then s.table i else f (s.table i)

/-- R120: SOLO OFF before the judgement. -/
theorem State.mapBoth_announced {s : State} (hroles : s.census.roles.Apart) (f : CensusTable → CensusTable) :
    s.Announced (s.mapBoth f) f := ⟨rfl, State.table_mapBoth hroles f⟩

/-! ### Learning, with what is not learned counted and latched (R123) -/

/-- R123: one key not learned. -/
def State.overflowed (o : Bool) (s : State) : State :=
  if o then (s.count Counters.addOverflow).latchNode .censusOverflow else s

/-- R120, R123: SOLO ON before the judgement: the tables, and what overflows of each. -/
def State.learned (k : Key) (s : State) : State :=
  ((s.mapBoth (CensusTable.learn k)).overflowed ((s.table s.census.roles.current).overflows k)).overflowed
    ((s.table s.census.roles.next).overflows k)

theorem State.learnKey_eq {s : State} (hroles : s.census.roles.Apart) (k : Key) : s.learnKey k = (s.learned k).judgeSolo := by
  have hlearn (t : State) (i : Fin 3) :
      t.learnIn i k = (t.mapTable i (CensusTable.learn k)).overflowed ((t.table i).overflows k) := rfl
  have htable (o : Bool) (t : State) (i : Fin 3) : (t.overflowed o).table i = t.table i := by cases o <;> rfl
  have hswap (o : Bool) (t : State) (i : Fin 3) :
      (t.overflowed o).mapTable i (CensusTable.learn k) = (t.mapTable i (CensusTable.learn k)).overflowed o := by
    cases o <;> rfl
  rw [State.learnKey, State.learned, hlearn, hlearn, htable, State.table_mapTable, if_neg hroles.1, hswap]
  rfl

section
variable (a b : Bool) (s : State)

theorem State.overflowed_frame : (s.overflowed a).overflowed b = { s with
    message.counters.censusOverflow := ((s.overflowed a).overflowed b).message.counters.censusOverflow
    reports.vectors := ((s.overflowed a).overflowed b).reports.vectors } := by
  cases a <;> cases b <;> rfl

theorem State.overflowed_counter : ((s.overflowed a).overflowed b).message.counters.censusOverflow =
    if a.toNat + b.toNat = 0 then s.message.counters.censusOverflow
    else min 65535 (s.message.counters.censusOverflow + (a.toNat + b.toNat)) := by
  cases a <;> cases b <;> simp [State.overflowed, State.count, Counters.addOverflow, raise16, holdAt]
  omega

theorem State.overflowed_vector_other {src : SourceNo} (h : src ≠ nodeSource) :
    ((s.overflowed a).overflowed b).reports.vectors[src] = s.reports.vectors[src] := by
  have hone (o : Bool) (t : State) : (t.overflowed o).reports.vectors[src] = t.reports.vectors[src] := by
    unfold State.overflowed
    split
    · rw [State.latchNode, State.vector_latch, if_neg h.symm]
      rfl
    · rfl
  rw [hone, hone]

theorem State.overflowed_vector : ((s.overflowed a).overflowed b).reports.vectors[nodeSource] =
    if a.toNat + b.toNat = 0 then s.reports.vectors[nodeSource]
    else
      { events := s.reports.vectors[nodeSource].events ||| NoticeEvent.censusOverflow.set
        count := min 255 (s.reports.vectors[nodeSource].count + (a.toNat + b.toNat)) } := by
  have hone (o : Bool) (t : State) : (t.overflowed o).reports.vectors[nodeSource] =
      if o then t.reports.vectors[nodeSource].latch .censusOverflow else t.reports.vectors[nodeSource] := by
    unfold State.overflowed
    split
    · rw [State.latchNode, State.vector_latch, if_pos rfl]
      rfl
    · rfl
  rw [hone, hone]
  cases a <;> cases b <;> simp [EventVector.latch, holdAt, BitVec.or_assoc]
  omega

end

theorem State.learned_announced {s : State} (hroles : s.census.roles.Apart) (k : Key) :
    s.Announced (s.learned k) (CensusTable.learn k) := by
  refine ⟨?_, fun i => ?_⟩
  · rw [State.learned, State.overflowed_frame]
    rfl
  · rw [State.learned, State.overflowed_frame]
    exact State.table_mapBoth hroles _ i

/-! ### The judgement after an announcement -/

section
variable {s u : State} {f : CensusTable → CensusTable} (h : s.Announced u f)
include h

theorem State.Announced.judged_frame : u.judgeSolo = { s with
    engine.strips := u.judgeSolo.engine.strips
    census.tables := u.judgeSolo.census.tables
    census.soloActive := u.judgeSolo.census.soloActive
    message.counters.censusOverflow := u.judgeSolo.message.counters.censusOverflow
    reports.vectors := u.judgeSolo.reports.vectors } := by
  rw [State.judgeSolo_frame, h.frame]

theorem State.Announced.judged_soloActive : u.judgeSolo.census.soloActive =
    (decide (0 < s.census.localSolo) || decide (0 < (u.judgeSolo.table s.census.roles.current).population)) := by
  have hactive := congrArg (·.census.soloActive) u.judgeSolo_frame
  have hlocal : u.census.localSolo = s.census.localSolo := by rw [h.frame]
  have hroles : u.census.roles = s.census.roles := by rw [h.frame]
  rw [State.table_judgeSolo, ← hlocal, ← hroles]
  exact hactive

theorem State.Announced.judged_strip (htargets : s.TargetsSound) (k : StripNo) : u.judgeSolo.strip k =
    (s.strip k).retarget u.judgeSolo.census.soloActive s.engine.activeMutes 96 := by
  have hactive := congrArg (·.census.soloActive) u.judgeSolo_frame
  have hstrip : u.strip k = s.strip k := by rw [h.frame]; rfl
  have hmutes : u.engine.activeMutes = s.engine.activeMutes := by rw [h.frame]
  have hsolo : u.census.soloActive = s.census.soloActive := by rw [h.frame]
  rw [State.strip_judgeSolo, hstrip, hmutes]
  · exact congrArg (fun b => (s.strip k).retarget b s.engine.activeMutes 96) hactive.symm
  · intro _
    rw [State.onTarget, hstrip, hmutes, hsolo]
    exact htargets k

theorem State.Announced.judged_table (i : Fin 3) :
    u.judgeSolo.table i = if i = s.census.roles.empty then s.table i else f (s.table i) := by
  rw [State.table_judgeSolo, h.table]

end

/-! ### The announcements (R120) -/

/-- R123: what leaves a key unlearned. -/
theorem CensusTable.overflows_eq_false {t : CensusTable} {k : Key} :
    t.overflows k = false ↔ t.present k = true ∨ t.home[k.home] = none ∨ t.free ≠ [] := by
  unfold CensusTable.overflows
  cases t.present k <;> cases t.home[k.home] <;> simp

theorem next_soloAnnounced {source : Member} {strip : Byte} {n : StripNo} {s : State} (hacts : s.Acts source)
    (hstrip : strip.toNat = n.val) (act : Key → State → State) :
    (.next (s.whenActing source fun t => t.soloAnnounced source strip act) : Host.Outcome State Fault Refusal) =
      .next (act { member := source, strip := n } s) :=
  next_whenActing hacts (by rw [State.soloAnnounced, stripOf_eq_some hstrip])

/-- Settles O39: both announcements change the two tables alike, SOLO ON counting what overflows of each, and solo active is judged
again in what they leave. -/
theorem soloAnnouncementsChangeTheCurrentAndNextTables : Obligations.SoloAnnouncementsChangeTheCurrentAndNextTables := by
  rintro source strip n key s hacts hstrip rfl htargets _ hcensus
  obtain ⟨htables, hroles, -, -⟩ := hcensus
  generalize hkey : ({ member := source, strip := n } : Key) = key
  have hon := State.learned_announced hroles key
  have hoff := State.mapBoth_announced hroles (CensusTable.remove key)
  refine ⟨rfl, (s.learned key).judgeSolo, (s.mapBoth (CensusTable.remove key)).judgeSolo, ?_, ?_, ?_, ?_, ?_, ?_, ?_, ?_⟩
  · rw [← State.learnKey_eq hroles, ← hkey]
    exact next_soloAnnounced hacts hstrip State.learnKey
  · rw [← hkey]
    exact next_soloAnnounced hacts hstrip State.removeKey
  · rintro t ht
    obtain ⟨u, f, hu, rfl, hf⟩ : ∃ u f, s.Announced u f ∧ u.judgeSolo = t ∧
        ∀ (table : CensusTable) (other : Key), other ≠ key → (f table).present other = table.present other := by
      rcases ht with rfl | rfl
      · exact ⟨_, _, hon, rfl, fun table _ hne => table.present_learn_of_ne hne⟩
      · exact ⟨_, _, hoff, rfl, fun table _ hne => table.present_remove_of_ne hne⟩
    refine ⟨hu.judged_frame, ?_, fun i other hne => ?_, hu.judged_soloActive, ?_⟩
    · rw [hu.judged_table, if_pos rfl]
    · rw [hu.judged_table]
      split
      · rfl
      · exact hf _ _ hne
    · rintro k a rfl
      exact hu.judged_strip htargets k
  · intro i hi
    rw [hoff.judged_table, hon.judged_table, if_neg hi, if_neg hi, CensusTable.present_learn, Bool.not_eq_true']
    exact ⟨(htables i).present_remove key, CensusTable.overflows_eq_false⟩
  · rw [State.judgeSolo_frame]
    rfl
  · rw [State.judgeSolo_frame]
    rfl
  · intro src hsrc
    rw [State.judgeSolo_frame]
    exact State.overflowed_vector_other _ _ _ hsrc
  · intro missed hmissed
    have hcount : missed = ((s.table s.census.roles.current).overflows key).toNat +
        ((s.table s.census.roles.next).overflows key).toNat := by
      rw [hmissed, (Roles.Apart.perm hroles).countP_eq]
      simp only [hon.judged_table]
      obtain ⟨hcn, hne, hce⟩ := hroles
      simp only [List.countP_cons, List.countP_nil, if_neg hne, if_neg hce, CensusTable.present_learn]
      cases (s.table s.census.roles.current).overflows key <;> cases (s.table s.census.roles.next).overflows key <;>
        simp [hne, hce]
    rw [State.judgeSolo_frame, hcount]
    exact ⟨State.overflowed_counter .., State.overflowed_vector ..⟩

end Sys2Proof.Machine
end

section
/-! O41: the clearing turn. -/

namespace Sys2Proof.Machine

open Sys2Proof

/-! ### The turn (R128) -/

theorem State.clearingOpen_of {s : State} (hstart : s.clock.start = .passing ∨ s.clock.start = .joined)
    (hfree : s.clock.taken.cleared = false) : s.clearingOpen = true := by
  rw [State.clearingOpen, s.periodsPass_iff.mpr hstart, hfree]
  rfl

theorem exec_censusClearing {s : State} {i : Fin 128} (hopen : s.clearingOpen = true) (hi : s.census.clearing = some i) :
    exec .censusClearing s = .next (s.clearStep i) := by
  show execCensusClearing s = _
  simp only [execCensusClearing, hi, hopen, if_true]

theorem exec_clearingComplete {s : State} (hopen : s.clearingOpen = true) (hi : s.census.clearing = some 127) :
    exec .clearingComplete s = .next (s.clearStep 127) := congrArg _ (if_pos ⟨hopen, hi⟩)

/-- R128: the state with one home entry of the Empty table taken, and the clearing then at `next`. -/
def State.cleared (i : Fin 128) (next : Option (Fin 128)) (s : State) : State :=
  { s.mapTable s.census.roles.empty (CensusTable.clearHome i) with clock.taken.cleared := true, census.clearing := next }

theorem State.clearStep_of_lt {i : Fin 128} (h : i.val < 127) (s : State) :
    s.clearStep i = s.cleared i (some ⟨i.val + 1, by omega⟩) := by
  rw [State.clearStep]
  exact dif_pos h

/-- R129: the last home entry completes clearing, and a held rotation is taken then. -/
theorem State.clearStep_last (s : State) : s.clearStep 127 =
    if s.census.held then { s.cleared 127 none with census.held := false }.rotate else s.cleared 127 none := rfl

section
variable (i : Fin 128) (next : Option (Fin 128)) (s : State)

theorem State.table_cleared (j : Fin 3) : (s.cleared i next).table j =
    if s.census.roles.empty = j then (s.table j).clearHome i else s.table j := State.table_mapTable ..

/-- R128: the other tables stand, the home entry is vacant, and its link entries lie on the free stack. -/
theorem State.cleared_tables {t : State} (ht : ∀ j, t.table j = (s.cleared i next).table j) :
    (∀ j : Fin 3, j ≠ s.census.roles.empty → t.table j = s.table j) ∧
    (t.table s.census.roles.empty).home = (s.table s.census.roles.empty).home.set i none ∧
    (t.table s.census.roles.empty).free =
      (homeLinks (s.table s.census.roles.empty).home[i]).reverse ++ (s.table s.census.roles.empty).free := by
  refine ⟨fun j hj => ?_, ?_⟩
  · rw [ht, State.table_cleared, if_neg hj.symm]
  · rw [ht, State.table_cleared, if_pos rfl, CensusTable.clearHome_eq]
    exact ⟨rfl, rfl⟩

end

/-! ### A rotation (R127) -/

/-- A rotation reaches the roles, the clearing, the strips and solo active; nothing else. -/
theorem State.rotate_frame (s : State) : s.rotate = { s with
    engine.strips := s.rotate.engine.strips
    census.roles := s.census.roles.rotate
    census.clearing := some 0
    census.soloActive := s.rotate.census.soloActive
    clock.taken.cleared := true } := by
  rw [State.rotate, State.judgeSolo_frame]

theorem State.table_rotate (s : State) (i : Fin 3) : s.rotate.table i = s.table i := by
  rw [State.rotate_frame]
  rfl

/-- R119, R127: solo active after a rotation is judged against the new Current table. -/
theorem State.rotate_soloActive (s : State) : s.rotate.census.soloActive =
    (decide (0 < s.census.localSolo) || decide (0 < (s.table s.rotate.census.roles.current).population)) := by
  have hroles : s.rotate.census.roles = s.census.roles.rotate := by rw [State.rotate_frame]
  rw [hroles, State.rotate, State.judgeSolo_frame]
  rfl

theorem State.strip_rotate {s : State} {k : StripNo} (h : s.onTarget (s.strip k)) :
    s.rotate.strip k = (s.strip k).retarget s.rotate.census.soloActive s.engine.activeMutes 96 := by
  have hsolo : s.rotate.census.soloActive = State.soloWanted { s with
      census.roles := s.census.roles.rotate, census.clearing := some 0, clock.taken.cleared := true } := by
    rw [State.rotate, State.judgeSolo_frame]
  rw [hsolo]
  exact State.strip_judgeSolo fun _ => h

/-- Settles O41: the turn by whether it is the last one, and the last one by whether a rotation is held. -/
theorem clearingTakesOneHomeEntryEachPeriod : Obligations.ClearingTakesOneHomeEntryEachPeriod := by
  intro i s hstart hfree hi htargets _
  have hopen := State.clearingOpen_of hstart hfree
  rw [exec_censusClearing hopen hi]
  refine ⟨?_, _, rfl, ?_⟩
  · rintro rfl
    exact exec_clearingComplete hopen hi
  · by_cases hlt : i.val < 127
    · rw [State.clearStep_of_lt hlt]
      have hne : i ≠ 127 := fun e => by simp [e] at hlt
      obtain ⟨hothers, hhome, hlinks⟩ := s.cleared_tables i (some ⟨i.val + 1, by omega⟩) fun _ => rfl
      exact ⟨rfl, hothers, hhome, hlinks, fun _ => ⟨rfl, rfl, rfl, rfl, rfl⟩, fun e => absurd e hne, fun e => absurd e hne⟩
    · obtain rfl : i = 127 := Fin.ext (by have := i.isLt; simp; omega)
      rw [State.clearStep_last]
      cases hheld : s.census.held with
      | false =>
        rw [if_neg Bool.false_ne_true]
        obtain ⟨hothers, hhome, hlinks⟩ := s.cleared_tables 127 none fun _ => rfl
        exact ⟨rfl, hothers, hhome, hlinks, fun h => absurd h hlt, fun _ _ => ⟨rfl, hheld, rfl, rfl, rfl⟩, fun _ => nofun⟩
      | true =>
        rw [if_pos rfl]
        generalize hr : State.rotate _ = r
        have hframe := State.rotate_frame { s.cleared 127 none with census.held := false }
        rw [hr] at hframe
        obtain ⟨hothers, hhome, hlinks⟩ := s.cleared_tables 127 none (t := r) fun j => by rw [← hr, State.table_rotate]; rfl
        refine ⟨by rw [hframe]; rfl, hothers, hhome, hlinks, fun h => absurd h hlt, fun _ => nofun, fun _ _ => ?_⟩
        refine ⟨by rw [hframe], by rw [hframe], by rw [hframe]; rfl, ?_, ?_⟩
        · subst hr
          rw [State.table_rotate]
          exact State.rotate_soloActive _
        · rintro k a rfl
          subst hr
          exact State.strip_rotate (htargets k)

end Sys2Proof.Machine
end

section
/-! SUPPORT. O40: the Group Table at an aging event (R143). -/

namespace Sys2Proof.Machine

open Sys2Proof

/-! ### One entry -/

/-- R143: whether the lead of group `g` lapses at an aging event: a remote lead heard from at neither of the last two. -/
def State.lapses (s : State) (g : GroupNo) : Bool :=
  match (s.group g).lead with
  | none => false
  | some k => k.member != s.clock.member && decide (1 ≤ (s.group g).silent)

/-- R143: the entry of group `g` after an aging event. -/
def State.agedEntry (s : State) (g : GroupNo) : GroupEntry :=
  match (s.group g).lead with
  | none => s.group g
  | some k =>
    if k.member = s.clock.member then { s.group g with mark := true }
    else if (s.group g).silent = 0 then { s.group g with silent := 1 }
    else { s.group g with lead := (s.firstWaiter g).map s.ownKey, silent := 0 }

/-- R135, R143: the claim that a lapse brings about, if there is a waiter. -/
def State.claimFor (g : GroupNo) (waiter : Option StripNo) (s : State) : State :=
  match waiter with
  | some n => s.announce (.claim g n)
  | none => s

/-- R143: an entry ages, and a lapse is latched and the waiter's claim offered; nothing else. -/
theorem State.ageGroup_eq (g : GroupNo) (s : State) : s.ageGroup g =
    if s.lapses g then ((s.setGroup g (s.agedEntry g)).latchNode .leadLapsed).claimFor g (s.firstWaiter g)
    else s.setGroup g (s.agedEntry g) := by
  unfold State.ageGroup State.lapses State.agedEntry
  cases hlead : (s.group g).lead with
  | none => simp
  | some k =>
    simp only [State.leadIsLocal_of_lead hlead, decide_eq_true_eq]
    by_cases hlocal : k.member = s.clock.member
    · simp [hlocal]
    · by_cases hsilent : (s.group g).silent = 0
      · simp [hlocal, hsilent]
      · have hwaiters : ((s.setGroup g (s.group g).cleared).latchNode .leadLapsed).isWaiter g = s.isWaiter g :=
          funext fun n => State.isWaiter_cleared hlead hlocal n
        have hfirst : ((s.setGroup g (s.group g).cleared).latchNode .leadLapsed).firstWaiter g = s.firstWaiter g :=
          congrArg (allStrips.find? ·) hwaiters
        have hset (e : GroupEntry) : ((s.setGroup g (s.group g).cleared).latchNode .leadLapsed).setGroup g e =
            (s.setGroup g e).latchNode .leadLapsed := by
          rw [← State.setGroup_setGroup g (s.group g).cleared e s]
          rfl
        rw [if_neg hlocal, if_pos (by omega), if_pos (by simp [hlocal]; omega), if_neg hlocal, if_neg hsilent, State.lapse,
          State.handOn, hfirst]
        cases s.firstWaiter g with
        | none => rfl
        | some n =>
          simp only [State.takeLead, hset, State.claimFor, State.group_latchNode, State.group_setGroup_same]
          rfl

/-- An entry that ages reaches the Group Table, the queue, the drop counter and the vectors; nothing else. -/
theorem State.ageGroup_frame (g : GroupNo) (s : State) : s.ageGroup g = { s with
    groups := (s.ageGroup g).groups
    message.outbound := (s.ageGroup g).message.outbound
    message.counters.outboundDrop := (s.ageGroup g).message.counters.outboundDrop
    reports.vectors := (s.ageGroup g).reports.vectors } := by
  rw [State.ageGroup_eq]
  split
  · cases s.firstWaiter g with
    | none => rfl
    | some n =>
      rw [State.claimFor, State.announce, State.offer_eq]
      rfl
  · rfl

@[simp] theorem State.claimFor_groups (g : GroupNo) (waiter : Option StripNo) (s : State) :
    (s.claimFor g waiter).groups = s.groups := by
  unfold State.claimFor
  split
  · exact State.offer_groups ..
  · rfl

theorem State.group_ageGroup (g h : GroupNo) (s : State) :
    (s.ageGroup g).group h = if g = h then s.agedEntry g else s.group h := by
  rw [← State.group_setGroup, State.ageGroup_eq]
  split
  · rw [State.group, State.claimFor_groups]
    rfl
  · rfl

/-! ### What a waiter and a lapse go by -/

/-- The state `t` has the leads, the waiters and the member number of `s`, as far as they concern group `g`. -/
structure State.SameGroup (s t : State) (g : GroupNo) : Prop where
  member : t.clock.member = s.clock.member
  group : t.group g = s.group g
  strip : ∀ n, ∃ ramp, t.strip n = { s.strip n with ramp }

section
variable {s t : State} {g : GroupNo} (h : s.SameGroup t g)
include h

theorem State.SameGroup.isWaiter (n : StripNo) : t.isWaiter g n = s.isWaiter g n := by
  obtain ⟨ramp, hramp⟩ := h.strip n
  simp only [State.isWaiter, State.isMember, State.leads, State.ownKey, hramp, h.group, h.member]

theorem State.SameGroup.firstWaiter : t.firstWaiter g = s.firstWaiter g :=
  congrArg (allStrips.find? ·) (funext h.isWaiter)

theorem State.SameGroup.lapses : t.lapses g = s.lapses g := by
  rw [State.lapses, State.lapses, h.group, h.member]

theorem State.SameGroup.agedEntry : t.agedEntry g = s.agedEntry g := by
  have hkey : t.ownKey = s.ownKey := funext fun n => by rw [State.ownKey, State.ownKey, h.member]
  rw [State.agedEntry, State.agedEntry, h.group, h.member, h.firstWaiter, hkey]

end

/-! ### The node's vector through a run of lapses and claims -/

/-- A vector with LEAD LAPSED latched `n` times more. -/
def EventVector.lapsed (n : Nat) (v : EventVector) : EventVector :=
  if n = 0 then v else { events := v.events ||| NoticeEvent.leadLapsed.set, count := min 255 (v.count + n) }

theorem EventVector.latch_lapsed (n : Nat) (v : EventVector) : (v.lapsed n).latch .leadLapsed = v.lapsed (n + 1) := by
  unfold EventVector.lapsed EventVector.latch
  rw [if_neg n.succ_ne_zero]
  split
  · rename_i h
    simp [holdAt, h]
  · simp only [holdAt, BitVec.or_assoc, BitVec.or_self, EventVector.mk.injEq, true_and]
    omega

/-- The order of two latches shows in nothing. -/
theorem EventVector.latch_lapsed_comm (n : Nat) (e : NoticeEvent) (v : EventVector) :
    (v.lapsed n).latch e = (v.latch e).lapsed n := by
  unfold EventVector.lapsed EventVector.latch
  split
  · rfl
  · simp only [holdAt, EventVector.mk.injEq]
    refine ⟨?_, by omega⟩
    rw [BitVec.or_assoc, BitVec.or_assoc, BitVec.or_comm e.set]

section
variable {q x : State} (g : GroupNo) (waiter : Option StripNo) (hmessage : x.message = q.message)
include hmessage

theorem State.claimFor_message_congr : (x.claimFor g waiter).message = (q.claimFor g waiter).message := by
  cases waiter with
  | none => exact hmessage
  | some m => exact State.offer_message_congr _ hmessage

/-- R96: two states with one Message Unit take the same claim, or both drop it. -/
theorem State.claimFor_node_congr {n : Nat}
    (hnode : x.reports.vectors[nodeSource] = q.reports.vectors[nodeSource].lapsed n) :
    (x.claimFor g waiter).reports.vectors[nodeSource] = (q.claimFor g waiter).reports.vectors[nodeSource].lapsed n := by
  cases waiter with
  | none => exact hnode
  | some m =>
    rw [State.claimFor, State.claimFor, State.announce, State.announce]
    cases hcoalesce : coalesce { dest := broadcast, body := .claim g m } q.message.outbound with
    | some queue =>
      rw [State.offer_of_coalesce hcoalesce, State.offer_of_coalesce (by rw [hmessage]; exact hcoalesce)]
      exact hnode
    | none =>
      have hcoalesce' : coalesce { dest := broadcast, body := .claim g m } x.message.outbound = none := by
        rw [hmessage]
        exact hcoalesce
      by_cases hroom : q.message.outbound.length < 32
      · rw [State.offer_of_room hcoalesce hroom, State.offer_of_room hcoalesce' (by rw [hmessage]; exact hroom)]
        exact hnode
      · rw [State.offer_of_full hcoalesce (by omega), State.offer_of_full hcoalesce' (by rw [hmessage]; omega),
          State.latchNode, State.latchNode, State.vector_latch, State.vector_latch, if_pos rfl, if_pos rfl,
          State.count_reports, State.count_reports, hnode, EventVector.latch_lapsed_comm]

end

/-! ### The entries in group order -/

/-- R143: the claims of the lapses among the groups `l`, offered in their order. -/
def State.claims (s : State) (l : List GroupNo) : State :=
  (l.filter s.lapses).foldl (fun q g => q.claimFor g (s.firstWaiter g)) s

theorem State.claims_concat (s : State) (l : List GroupNo) (g : GroupNo) : s.claims (l ++ [g]) =
    if s.lapses g then (s.claims l).claimFor g (s.firstWaiter g) else s.claims l := by
  rw [State.claims, List.filter_append, List.foldl_append, List.filter_singleton]
  cases s.lapses g <;> rfl

/-- What the groups `l`, aged one after another from `y`, leave: `s` is the state the aging event began in. -/
structure State.AgedOver (s y : State) (l : List GroupNo) (t : State) : Prop where
  frame : t = { y with
    groups := t.groups
    message.outbound := t.message.outbound
    message.counters.outboundDrop := t.message.counters.outboundDrop
    reports.vectors := t.reports.vectors }
  group : ∀ g, t.group g = if g ∈ l then s.agedEntry g else s.group g
  message : t.message = (s.claims l).message
  node : t.reports.vectors[nodeSource] = (s.claims l).reports.vectors[nodeSource].lapsed (l.countP s.lapses)
  others : ∀ src : SourceNo, src ≠ nodeSource → t.reports.vectors[src] = s.reports.vectors[src]

theorem State.ageGroup_vector_other (g : GroupNo) (s : State) {src : SourceNo} (h : src ≠ nodeSource) :
    (s.ageGroup g).reports.vectors[src] = s.reports.vectors[src] := by
  have hlatched (t : State) : (t.latchNode .leadLapsed).reports.vectors[src] = t.reports.vectors[src] := by
    rw [State.latchNode, State.vector_latch, if_neg h.symm]
  rw [State.ageGroup_eq]
  split
  · cases s.firstWaiter g with
    | none => exact hlatched _
    | some n => exact (State.offer_vector _ _ h).trans (hlatched _)
  · rfl

theorem State.AgedOver.ageGroup {s y t : State} {l : List GroupNo} {g : GroupNo} (h : s.AgedOver y l t) (hg : g ∉ l)
    (hsame : s.SameGroup y g) : s.AgedOver y (l ++ [g]) (t.ageGroup g) := by
  have hsame' : s.SameGroup t g := by
    refine ⟨?_, by rw [h.group, if_neg hg], fun n => ?_⟩
    · rw [h.frame]
      exact hsame.member
    · rw [h.frame]
      exact hsame.strip n
  refine ⟨by rw [State.ageGroup_frame, h.frame], fun k => ?_, ?_, ?_, fun src hsrc => ?_⟩
  · rw [State.group_ageGroup, hsame'.agedEntry, h.group]
    by_cases hk : g = k
    · simp [hk]
    · simp [hk, Ne.symm hk]
  · rw [State.ageGroup_eq, State.claims_concat, hsame'.lapses, hsame'.firstWaiter]
    split
    · exact State.claimFor_message_congr g _ h.message
    · exact h.message
  · rw [State.ageGroup_eq, State.claims_concat, hsame'.lapses, hsame'.firstWaiter, List.countP_append, List.countP_singleton]
    split
    · refine State.claimFor_node_congr (x := (t.setGroup g (t.agedEntry g)).latchNode .leadLapsed) g _ h.message ?_
      rw [State.latchNode, State.vector_latch, if_pos rfl, State.setGroup_reports, h.node, EventVector.latch_lapsed]
    · exact h.node
  · rw [State.ageGroup_vector_other _ _ hsrc, h.others src hsrc]

/-- R143: the 32 entries. -/
theorem State.ageGroups_agedOver {s y : State} (hsame : ∀ g, s.SameGroup y g) (hmessage : y.message = s.message)
    (hreports : y.reports = s.reports) : s.AgedOver y (List.finRange 32) y.ageGroups := by
  have key (l : List GroupNo) (hl : l.Nodup) : s.AgedOver y l (l.foldl State.ageGroup y) := by
    induction l using List.reverseRecOn with
    | nil =>
      refine ⟨rfl, fun g => ?_, hmessage, ?_, fun src _ => by rw [List.foldl_nil, hreports]⟩
      · rw [if_neg List.not_mem_nil]
        exact (hsame g).group
      · rw [List.foldl_nil, hreports]
        rfl
    | append_singleton l g ih =>
      rw [List.nodup_append] at hl
      obtain ⟨hnodup, -, hdisjoint⟩ := hl
      rw [List.foldl_append]
      exact (ih hnodup).ageGroup (fun hg => hdisjoint g hg g (List.mem_singleton_self g) rfl) (hsame g)
  exact key _ (List.nodup_finRange 32)

end Sys2Proof.Machine
end

section
/-! O40: the aging event. -/

namespace Sys2Proof.Machine

open Sys2Proof

/-! ### The entry of a group, by its lead (R143) -/

section
variable {s : State} {g : GroupNo}

theorem State.agedEntry_of_none (h : (s.group g).lead = none) : s.agedEntry g = s.group g := by
  rw [State.agedEntry, h]

variable {k : Key} (hlead : (s.group g).lead = some k)
include hlead

theorem State.agedEntry_of_local (h : k.member = s.clock.member) :
    s.agedEntry g = { s.group g with mark := true } := by
  rw [State.agedEntry, hlead]
  exact if_pos h

theorem State.agedEntry_of_heard (h : k.member ≠ s.clock.member) (hsilent : (s.group g).silent = 0) :
    s.agedEntry g = { s.group g with silent := 1 } := by
  rw [State.agedEntry, hlead]
  exact (if_neg h).trans (if_pos hsilent)

theorem State.agedEntry_of_silent (h : k.member ≠ s.clock.member) (hsilent : 1 ≤ (s.group g).silent) :
    s.agedEntry g = { s.group g with lead := (s.firstWaiter g).map s.ownKey, silent := 0 } := by
  rw [State.agedEntry, hlead]
  exact (if_neg h).trans (if_neg (by omega))

end

theorem State.firstWaiter_of_none {s : State} {g : GroupNo} (h : ∀ n : StripNo, s.isWaiter g n = false) :
    s.firstWaiter g = none := by
  rw [State.firstWaiter, List.find?_eq_none]
  exact fun n _ => Bool.eq_false_iff.mp (h n)

/-! ### The timer's restart, with a rotation taken or held (R125 to R129) -/

/-- What the first half of an aging event, up to the Group Table, leaves of `s`. -/
structure State.Turned (s y : State) : Prop where
  frame : y = { s with
    engine.strips := y.engine.strips
    census := { s.census with
      agingCount := 0, roles := y.census.roles, clearing := y.census.clearing, held := y.census.held
      soloActive := y.census.soloActive }
    clock.taken.cleared := y.clock.taken.cleared }
  rotates : s.census.clearing = none → y.census.clearing = some 0 ∧ y.census.held = s.census.held ∧
    y.census.roles = s.census.roles.rotate ∧ y.clock.taken.cleared = true
  holds : s.census.clearing ≠ none → y.census.clearing = s.census.clearing ∧ y.census.held = true ∧
    y.census.roles = s.census.roles ∧ y.clock = s.clock
  soloActive : y.census.soloActive =
    (decide (0 < s.census.localSolo) || decide (0 < (s.table y.census.roles.current).population))
  strip : ∀ k, y.strip k = (s.strip k).retarget y.census.soloActive s.engine.activeMutes 96

theorem State.rotateOrHold_turned {s : State} (htargets : s.TargetsSound) (hsolo : s.SoloSound) :
    s.Turned ({ s with census.agingCount := 0 } : State).rotateOrHold := by
  cases hclearing : s.census.clearing with
  | none =>
    have hrotates : ({ s with census.agingCount := 0 } : State).rotateOrHold =
        ({ s with census.agingCount := 0 } : State).rotate := if_neg (by simp [hclearing])
    rw [hrotates]
    have hframe := State.rotate_frame { s with census.agingCount := 0 }
    refine ⟨by rw [hframe], fun _ => by rw [hframe]; exact ⟨rfl, rfl, rfl, rfl⟩, fun h => absurd hclearing h,
      State.rotate_soloActive _, fun k => State.strip_rotate (htargets k)⟩
  | some i =>
    have hholds : ({ s with census.agingCount := 0 } : State).rotateOrHold =
        { s with census.agingCount := 0, census.held := true } := if_pos (by simp [hclearing])
    rw [hholds]
    obtain ⟨hactive, -⟩ := hsolo
    refine ⟨rfl, fun h => absurd (hclearing.symm.trans h) nofun, fun _ => ⟨rfl, rfl, rfl, rfl⟩, hactive, fun k => ?_⟩
    exact (State.retargeted_eq_self 96 (htargets k)).symm

theorem State.Turned.sameGroup {s y : State} (h : s.Turned y) (g : GroupNo) : s.SameGroup y g :=
  ⟨by rw [h.frame], by rw [h.frame]; rfl, fun n => ⟨_, h.strip n⟩⟩

/-! ### The commands -/

theorem exec_agingEvent_early {s : State} (h : s.census.agingCount < s.clock.profile.aging) :
    exec .agingEvent s = .next s :=
  congrArg _ (if_neg (by simp [State.agingDue, h]))

/-- R125, R126, R143: the commands that take an aging event. -/
theorem exec_restartAging {i : Instr} {s : State}
    (h : (∃ source, s.Acts source ∧ i = .censusSweep source) ∨
      ((s.clock.start = .passing ∨ s.clock.start = .joined) ∧ s.clock.profile.aging ≤ s.census.agingCount ∧
        (i = .agingEvent ∨ ∃ (g : GroupNo) (k : Key), i = .leadLapse g ∧ (s.group g).lead = some k ∧
          k.member ≠ s.clock.member ∧ 1 ≤ (s.group g).silent))) : exec i s = .next s.restartAging := by
  rcases h with ⟨source, hacts, rfl⟩ | ⟨hstart, hexpired, hcommand⟩
  · exact next_whenActing hacts rfl
  · have hdue : s.agingDue = true := by
      rw [State.agingDue, s.periodsPass_iff.mpr hstart, decide_eq_true hexpired]
      rfl
    rcases hcommand with rfl | ⟨g, k, rfl, hlead, hremote, hsilent⟩
    · show execAgingEvent s = _
      rw [execAgingEvent, if_pos hdue]
    · show execLeadLapse g s = _
      rw [execLeadLapse, if_pos]
      simp only [State.lapseDue, hdue, State.leadIsLocal_of_lead hlead, hlead, hremote]
      simpa using hsilent

theorem State.markSoloed_frame (s : State) : s.markSoloed = { s with census.marks := s.markSoloed.census.marks } := by
  simp only [State.markSoloed]

theorem State.markSoloed_marks (s : State) (k : StripNo) :
    s.markSoloed.census.marks[k] = (s.census.marks[k] || (s.strip k).soloed) := by
  simp [State.markSoloed, State.strip]

/-- Settles O40: the rotation taken or held, the 32 entries in group order, and the marks of the soloed strips. -/
theorem agingEventRotatesLapsesAndMarks : Obligations.AgingEventRotatesLapsesAndMarks := by
  refine ⟨fun s _ => exec_agingEvent_early, fun i s hsolo htargets hcommand => ?_⟩
  rw [exec_restartAging hcommand]
  have hturned := State.rotateOrHold_turned htargets hsolo
  rw [State.restartAging, State.agingEvent]
  generalize State.rotateOrHold _ = y at hturned
  have haged := State.ageGroups_agedOver hturned.sameGroup (by rw [hturned.frame]) (by rw [hturned.frame])
  generalize y.ageGroups = x at haged
  have hcensus : x.census = y.census := by rw [haged.frame]
  have hclock : x.clock = y.clock := by rw [haged.frame]
  have hengine : x.engine = y.engine := by rw [haged.frame]
  have hstrip (k : StripNo) : x.strip k = y.strip k := by rw [State.strip, hengine]; rfl
  have hmarks (k : StripNo) : x.markSoloed.census.marks[k] = (s.census.marks[k] || (s.strip k).soloed) := by
    rw [State.markSoloed_marks, hcensus, hstrip, hturned.strip, hturned.frame]
    rfl
  have hgroup (g : GroupNo) : x.group g = s.agedEntry g := by rw [haged.group, if_pos (List.mem_finRange g)]
  have hframe := x.markSoloed_frame
  generalize x.markSoloed = t at hframe hmarks
  have htcensus : t.census = { y.census with marks := t.census.marks } := by rw [hframe, hcensus]
  refine ⟨t, rfl, ?_, ?_, ?_, ?_, fun hnone => ?_, fun hsome => ?_, ?_, ?_, ?_, fun g => ?_⟩
  · rw [hframe, haged.frame, hturned.frame]
  · rw [htcensus, hturned.frame]
  · rw [htcensus, hturned.frame]
  · rw [htcensus, hturned.frame]
  · rw [htcensus, hframe, hclock]
    exact hturned.rotates hnone
  · rw [htcensus, hframe, hclock]
    exact hturned.holds hsome
  · rw [htcensus]
    exact hturned.soloActive
  · rintro k a rfl
    refine ⟨?_, hmarks k⟩
    rw [htcensus, hframe]
    exact (hstrip k).trans (hturned.strip k)
  · intro lapsed r hlapsed hr
    have hlapses : lapsed = (List.finRange 32).filter s.lapses := hlapsed
    have hclaims : r = s.claims (List.finRange 32) := by
      rw [hr, hlapses]
      rfl
    have hempty : lapsed = [] ↔ lapsed.length = 0 := List.length_eq_zero_iff.symm
    rw [hframe]
    refine ⟨haged.message.trans (hclaims ▸ rfl), haged.others, haged.node.trans ?_⟩
    rw [← hclaims, List.countP_eq_length_filter, ← hlapses, EventVector.lapsed]
    simp only [hempty]
    split
    · rename_i hzero
      rw [hr, hempty.mpr hzero]
      rfl
    · rfl
  · have htgroup : t.group g = s.agedEntry g := by rw [hframe]; exact hgroup g
    rw [htgroup]
    refine ⟨State.agedEntry_of_none, fun k hlead => ⟨State.agedEntry_of_local hlead, State.agedEntry_of_heard hlead,
      fun hremote hsilent => ?_⟩⟩
    rw [State.agedEntry_of_silent hlead hremote hsilent]
    refine ⟨fun hnone => ?_, fun n hwaiter hlow => ?_⟩
    · rw [State.firstWaiter_of_none hnone]
      rfl
    · rw [State.firstWaiter, find_allStrips hwaiter hlow]
      rfl

end Sys2Proof.Machine
end

section
/-! O49: the scanner's visits and the refresh walk. -/

namespace Sys2Proof.Machine

open Sys2Proof

/-- R131, R165: at least 4 free entries. -/
theorem State.four_le_freeEntries {s : State} : 4 ≤ s.freeEntries ↔ s.message.outbound.length ≤ 28 := by
  rw [State.freeEntries, queueLimit]
  omega

/-! ### The scanner (R165) -/

/-- R165: the scan position goes from 64 back to 0. -/
theorem nextSource_eq (src : SourceNo) : nextSource src = Fin.ofNat 65 (src.val + 1) := by
  apply Fin.ext
  rw [nextSource, Fin.val_ofNat]
  split
  · simp only
    omega
  · simp only [Fin.coe_ofNat_eq_mod]
    omega

section
variable {src : SourceNo} {s : State}

theorem State.visit_of_none (h : s.reports.vectors[src].events = 0#24 ∨ 29 ≤ s.message.outbound.length) :
    s.visit src = s := by
  rw [State.visit, if_neg]
  rw [State.four_le_freeEntries]
  rcases h with h | h
  · exact fun hboth => hboth.1 h
  · omega

/-- R165: with room, a vector that holds events is queued and cleared. -/
theorem State.visit_of_room (hevents : s.reports.vectors[src].events ≠ 0#24) (hroom : s.message.outbound.length ≤ 28) :
    s.visit src = { s with
      message.outbound := s.message.outbound ++ [s.noticeOf src]
      reports.vectors := s.reports.vectors.set src EventVector.empty } := by
  have hnotice : coalesce (s.noticeOf src) s.message.outbound = none := coalesce_eq_none _ (by simp [State.noticeOf, Body.kind])
  rw [State.visit, if_pos ⟨hevents, State.four_le_freeEntries.mpr hroom⟩, State.offer_of_room hnotice (by omega)]

theorem exec_scannerVisit (hjoined : s.clock.start = .joined) (hinhibited : s.reports.inhibited = false)
    (hfree : s.clock.taken.visited = false) : exec .scannerVisit s =
      .next { s.visit s.reports.scan with reports.scan := nextSource s.reports.scan, clock.taken.visited := true } :=
  congrArg _ (if_pos (by simp [State.joined, hjoined, hinhibited, hfree]))

end

/-! ### The refresh walk (R130, R131, R144) -/

/-- R131: no strip is marked. -/
theorem State.firstMarkedStrip_eq_none {s : State} (h : ∀ n : StripNo, s.census.marks[n] = false) :
    s.firstMarkedStrip = none := by
  rw [State.firstMarkedStrip, List.find?_eq_none]
  exact fun n _ => by simp [h]

theorem State.takeMark_strip {s : State} {n : StripNo} (hn : s.census.marks[n] = true)
    (hlow : ∀ lower : StripNo, lower < n → s.census.marks[lower] = false) :
    s.takeMark = { s with census.marks := s.census.marks.set n false }.announce (.soloRefresh n) := by
  have hfirst : s.firstMarkedStrip = some n := find_allStrips (p := fun n => s.census.marks[n]) hn hlow
  rw [State.takeMark, hfirst]

section
variable {s : State} (hstrips : ∀ n : StripNo, s.census.marks[n] = false)
include hstrips

theorem State.takeMark_none (h : ∀ g : GroupNo, (s.group g).mark = false) : s.takeMark = s := by
  have hfirst : s.firstMarkedGroup = none := by
    rw [State.firstMarkedGroup, List.find?_eq_none]
    exact fun g _ => Bool.eq_false_iff.mp (h g)
  rw [State.takeMark, State.firstMarkedStrip_eq_none hstrips, hfirst]

theorem State.takeMark_group {g : GroupNo} (hg : (s.group g).mark = true)
    (hlow : ∀ lower : GroupNo, lower < g → (s.group lower).mark = false) :
    s.takeMark = (s.setGroup g { s.group g with mark := false }).claimRefresh g := by
  have hfirst : s.firstMarkedGroup = some g := find_allStrips (p := fun g => (s.group g).mark) hg hlow
  rw [State.takeMark, State.firstMarkedStrip_eq_none hstrips, hfirst]

end

section
variable {s : State} {g : GroupNo} {e : GroupEntry}

/-- R144: a mark of a group that this node leads becomes a claim. -/
theorem State.claimRefresh_local {n : StripNo} (h : e.lead = some (s.ownKey n)) :
    (s.setGroup g e).claimRefresh g = (s.setGroup g e).announce (.claim g n) := by
  rw [State.claimRefresh, State.group_setGroup_same, h]
  exact if_pos rfl

theorem State.claimRefresh_other (h : ∀ k ∈ e.lead, k.member ≠ s.clock.member) :
    (s.setGroup g e).claimRefresh g = s.setGroup g e := by
  rw [State.claimRefresh, State.group_setGroup_same]
  split
  · rename_i k hk
    exact if_neg (h k hk)
  · rfl

end

theorem exec_refreshWalkTurn {s turned : State} (hjoined : s.clock.start = .joined) (hfree : s.clock.taken.walked = false)
    (hturned : turned = { s with clock.taken.walked := true }) :
    exec .refreshWalkTurn s = .next (if s.message.outbound.length ≤ 28 then turned.takeMark else turned) := by
  subst hturned
  refine congrArg _ ((if_pos (by simp [State.joined, hjoined, hfree])).trans ?_)
  simp only [State.four_le_freeEntries]

/-- Settles O49: the visit by what the vector holds and what room there is, and the turn by the first mark in walk order. -/
theorem scannerAndWalkNeedFourFreeEntries : Obligations.ScannerAndWalkNeedFourFreeEntries := by
  constructor
  · rintro src v s visited hjoined hinhibited hfree rfl rfl rfl
    rw [exec_scannerVisit hjoined hinhibited hfree, ← nextSource_eq]
    refine ⟨fun hnone => ?_, fun hevents hroom => ?_⟩
    · rw [State.visit_of_none hnone]
    · rw [State.visit_of_room hevents hroom]
      rfl
  · intro s turned hjoined hfree hturned
    rw [exec_refreshWalkTurn hjoined hfree hturned]
    refine ⟨fun hfull => by rw [if_neg (by omega)], fun hroom => ?_⟩
    rw [if_pos hroom]
    have hmarks : turned.census.marks = s.census.marks := by rw [hturned]
    have hgroup (g : GroupNo) : turned.group g = s.group g := by rw [hturned]; rfl
    have hmember : turned.clock.member = s.clock.member := by rw [hturned]
    simp only [← hmarks, ← hgroup, ← hmember]
    refine ⟨fun n hn hlow => by rw [State.takeMark_strip hn hlow], fun hstrips => ⟨fun hgroups => ?_, fun g hg hlow => ?_⟩⟩
    · rw [State.takeMark_none hstrips hgroups]
    · rw [State.takeMark_group hstrips hg hlow]
      exact ⟨fun n hlead => congrArg _ (State.claimRefresh_local hlead),
        fun hremote => congrArg _ (State.claimRefresh_other hremote)⟩

end Sys2Proof.Machine
end

section
/-! SUPPORT. The part of the state that the leads' invariant reads (R134), and the operations that leave it alone. -/

namespace Sys2Proof.Machine

open Sys2Proof

/-! ### What leads go by -/

/-- What R134 asks of a strip that leads: its link group, whether it is touched, and its mode. -/
def Strip.leadTerms (st : Strip) : Option GroupNo × Bool × Mode := (st.linkGroup, st.touched, st.mode)

/-- What R134 is of: these terms of every strip, each group's lead and silent count, and whose node it is. -/
def State.leadTerms (s : State) : (StripNo → Option GroupNo × Bool × Mode) × (GroupNo → Option Key × Nat) × Member :=
  (fun n => (s.strip n).leadTerms, fun g => ((s.group g).lead, (s.group g).silent), s.clock.member)

/-- They stand with each strip's terms, the Group Table and the member number. -/
theorem State.leadTerms_congr {s t : State} (hstrip : ∀ n, (t.strip n).leadTerms = (s.strip n).leadTerms)
    (hgroups : t.groups = s.groups) (hmember : t.clock.member = s.clock.member) : t.leadTerms = s.leadTerms := by
  simp only [State.leadTerms, State.group, hstrip, hgroups, hmember]

/-- They stand with the Strip Engine, the Group Table and the clock. -/
theorem State.leadTerms_of_blocks {s t : State} (hengine : t.engine = s.engine) (hgroups : t.groups = s.groups)
    (hclock : t.clock = s.clock) : t.leadTerms = s.leadTerms :=
  State.leadTerms_congr (fun n => by rw [State.strip, hengine]; rfl) hgroups (by rw [hclock])

/-- A fold of operations that leave them alone leaves them alone. -/
theorem State.leadTerms_foldl {α : Type} {f : State → α → State} (hf : ∀ t a, (f t a).leadTerms = t.leadTerms)
    (l : List α) (s : State) : (l.foldl f s).leadTerms = s.leadTerms := by
  induction l generalizing s with
  | nil => rfl
  | cons a l ih => rw [List.foldl_cons, ih, hf]

section
variable (s : State)

/-! ### The primitive updates -/

/-- A record written back with its terms as they were. -/
theorem State.leadTerms_setStrip {n : StripNo} {st : Strip} (h : st.leadTerms = (s.strip n).leadTerms) :
    (s.setStrip n st).leadTerms = s.leadTerms := by
  refine State.leadTerms_congr (fun k => ?_) rfl rfl
  rw [State.strip_setStrip]
  split
  · rename_i e
    exact e ▸ h
  · rfl

theorem State.leadTerms_mapStrips {f : StripNo → Strip → Strip}
    (h : ∀ n, (f n (s.strip n)).leadTerms = (s.strip n).leadTerms) : (s.mapStrips f).leadTerms = s.leadTerms :=
  State.leadTerms_congr (fun n => by rw [State.strip_mapStrips, h]) (s.mapStrips_groups f)
    (by rw [State.mapStrips_clock])

/-- An entry written back with its lead and its silent count as they were. -/
theorem State.leadTerms_setGroup {g : GroupNo} {e : GroupEntry} (hlead : e.lead = (s.group g).lead)
    (hsilent : e.silent = (s.group g).silent) : (s.setGroup g e).leadTerms = s.leadTerms := by
  have hentry (k : GroupNo) :
      (((s.setGroup g e).group k).lead, ((s.setGroup g e).group k).silent) = ((s.group k).lead, (s.group k).silent) := by
    rw [State.group_setGroup]
    split
    · rename_i hk
      rw [hlead, hsilent, hk]
    · rfl
  exact congrArg (fun entries => (fun n => (s.strip n).leadTerms, entries, s.clock.member)) (funext hentry)

theorem State.leadTerms_setStripEffective (n : StripNo) (length : Nat) {st : Strip}
    (h : st.leadTerms = (s.strip n).leadTerms) : (s.setStripEffective n length st).leadTerms = s.leadTerms := by
  unfold State.setStripEffective
  split
  · exact s.leadTerms_setStrip h
  · exact s.leadTerms_setStrip (st := s.retargeted length st) h

@[simp] theorem State.leadTerms_setUnit (u : UnitNo) (c : CaptureUnit) : (s.setUnit u c).leadTerms = s.leadTerms := rfl
@[simp] theorem State.leadTerms_latchNode (e : NoticeEvent) : (s.latchNode e).leadTerms = s.leadTerms := rfl
@[simp] theorem State.leadTerms_latchStrips (f : StripNo → List NoticeEvent) :
    (s.latchStrips f).leadTerms = s.leadTerms :=
  State.leadTerms_of_blocks (s.latchStrips_engine f) (s.latchStrips_groups f) (s.latchStrips_clock f)
@[simp] theorem State.leadTerms_offer (m : OutMsg) : (s.offer m).leadTerms = s.leadTerms :=
  State.leadTerms_of_blocks (s.offer_engine m) (s.offer_groups m) (s.offer_clock m)
@[simp] theorem State.leadTerms_announce (b : Body) : (s.announce b).leadTerms = s.leadTerms := State.leadTerms_offer ..
@[simp] theorem State.leadTerms_refuse (source : Member) (kind object : Byte) (reason : Reason) :
    (s.refuse source kind object reason).leadTerms = s.leadTerms := State.leadTerms_offer ..
@[simp] theorem State.leadTerms_begun : s.begun.leadTerms = s.leadTerms := by
  rw [State.begun_eq]
  rfl

/-! ### Commands by the object they name (R26, R100) -/

theorem State.leadTerms_stripCommand (source : Member) (kind strip : Byte) {act : StripNo → State → State}
    (hact : ∀ n, (act n s).leadTerms = s.leadTerms) : (s.stripCommand source kind strip act).leadTerms = s.leadTerms := by
  unfold State.stripCommand
  split
  · exact hact _
  · exact s.leadTerms_refuse ..

theorem State.leadTerms_stripsCommand (source : Member) (kind strip : Byte) {act : StripNo → State → State}
    (hact : ∀ n t, (act n t).leadTerms = t.leadTerms) : (s.stripsCommand source kind strip act).leadTerms = s.leadTerms := by
  unfold State.stripsCommand
  split
  · exact State.leadTerms_foldl (fun t n => hact n t) _ _
  · exact s.leadTerms_stripCommand _ _ _ fun n => hact n s

theorem State.leadTerms_unitCommand (source : Member) (kind unit : Byte) {act : UnitNo → State → State}
    (hact : ∀ u, (act u s).leadTerms = s.leadTerms) : (s.unitCommand source kind unit act).leadTerms = s.leadTerms := by
  unfold State.unitCommand
  split
  · exact hact _
  · exact s.leadTerms_refuse ..

/-! ### MUTE GROUP and PLACE (chapters 2 and 3) -/

@[simp] theorem State.leadTerms_actMuteGroup (source : Member) (group state : Byte) :
    (s.actMuteGroup source group state).leadTerms = s.leadTerms := by
  unfold State.actMuteGroup
  split
  · refine State.leadTerms_mapStrips { s with engine.activeMutes := _ } fun n => ?_
    split <;> rfl
  · exact s.leadTerms_refuse ..

/-- R38: a placement committed, with the swap it may begin. -/
@[simp] theorem State.leadTerms_commit (n : StripNo) (taps : List Tap) : (s.commit n taps).leadTerms = s.leadTerms := by
  unfold State.commit
  dsimp only
  split_ifs <;> exact s.leadTerms_setStrip rfl

@[simp] theorem State.leadTerms_actPlace (source : Member) (f : PlaceFields) :
    (s.actPlace source f).leadTerms = s.leadTerms := by
  have hstaged (n : StripNo) (staged : Option (List Tap)) :
      (s.setStrip n { s.strip n with staged }).leadTerms = s.leadTerms := s.leadTerms_setStrip rfl
  unfold State.actPlace
  split
  · exact s.leadTerms_refuse ..
  · split
    · unfold State.takePlace
      dsimp only
      split_ifs
      · rw [State.leadTerms_commit, hstaged]
      · exact hstaged ..
      · rw [State.leadTerms_commit, hstaged]
    · rw [State.leadTerms_refuse, hstaged]

/-! ### Cues and the transport (chapter 6) -/

/-- R112: a cue that fires sets the automation level. -/
theorem State.fired_leadTerms (c : Cue) (st : Strip) : (s.fired c st).leadTerms = st.leadTerms := by
  rw [State.fired_ramp]
  rfl

@[simp] theorem State.leadTerms_actCue (source : Member) (f : CueFields) : (s.actCue source f).leadTerms = s.leadTerms := by
  refine s.leadTerms_stripCommand _ _ _ fun n => ?_
  have hfired : (s.fireCue n (formCue f)).leadTerms = s.leadTerms := s.leadTerms_setStrip (s.fired_leadTerms ..)
  have hoffered : (s.offerCueTo n (formCue f)).leadTerms = s.leadTerms := by
    rw [State.offerCueTo_frame]
    rfl
  unfold State.takeCue
  split_ifs
  · exact hfired
  · exact hfired
  all_goals exact hoffered

@[simp] theorem State.leadTerms_actCueFlush (source : Member) (strip : Byte) :
    (s.actCueFlush source strip).leadTerms = s.leadTerms := s.leadTerms_stripsCommand _ _ _ fun _ _ => rfl

/-- A strip bound otherwise leads as before. -/
theorem Strip.Rebinds.leadTerms {a b : Strip} (h : a.Rebinds b) : b.leadTerms = a.leadTerms := by
  rw [h]
  rfl

/-- R105, R112, R172: the transport change and the position event move latched, levels, ramps and bindings alone. -/
theorem State.leadTerms_moved (parkUnitsFirst cueUnitsFirst : Bool) (q : Position) (reading : Bool) :
    (s.moved parkUnitsFirst cueUnitsFirst q reading).leadTerms = s.leadTerms := by
  have hframe := (s.moved_frame parkUnitsFirst cueUnitsFirst q reading).frame
  refine State.leadTerms_congr (fun n => ?_) (by rw [hframe]) (by rw [hframe])
  cases reading with
  | false =>
    cases hrolling : s.clock.rolling with
    | false => rw [State.moved_rests _ _ _ hrolling]
    | true =>
      rw [((State.moved_parks _ _ _ hrolling).strip n).leadTerms, State.parkStrip_eq]
      rfl
  | true =>
    cases hjump : s.discontinuous q with
    | true => exact ((State.moved_jumps _ _ _ hjump).strip n).leadTerms
    | false =>
      rw [((State.moved_follows _ _ _ hjump).strip n).leadTerms, State.firedLast]
      split
      · exact s.fired_leadTerms ..
      · rfl

@[simp] theorem State.leadTerms_takeReference (position : Position) (rolling valid : Bool) :
    (s.takeReference position rolling valid).leadTerms = s.leadTerms := by
  have hfaulted : (if valid then s else s.latchNode .positionFault).leadTerms = s.leadTerms := by split <;> rfl
  exact (State.leadTerms_moved ..).trans hfaulted

/-! ### Deltas and faders (R33, R104, R139) -/

/-- R33: a delta moves link offsets. -/
@[simp] theorem State.leadTerms_applyDelta (g : GroupNo) (change : Int) :
    (s.applyDelta g change).leadTerms = s.leadTerms := by
  rw [State.applyDelta, State.leadTerms_latchStrips]
  refine s.leadTerms_mapStrips fun n => ?_
  unfold State.withDelta
  split_ifs <;> rfl

@[simp] theorem State.leadTerms_actFader (source : Member) (strip : Byte) (level : BitVec 16) :
    (s.actFader source strip level).leadTerms = s.leadTerms := by
  refine s.leadTerms_stripCommand _ _ _ fun n => ?_
  have hhanded (t : State) (change : Int) : (t.handMove n change).leadTerms = t.leadTerms := by
    unfold State.handMove
    split
    · split
      · rw [State.leadMove, State.leadTerms_announce, State.leadTerms_applyDelta]
      · rfl
    · rfl
  unfold State.moveFader
  split
  · rfl
  · rw [hhanded]
    exact s.leadTerms_setStripEffective n _ rfl

@[simp] theorem State.leadTerms_captureEdge (n : StripNo) (mark : Byte) :
    (s.captureEdge n mark).leadTerms = s.leadTerms := by
  rw [State.captureEdge_frame]
  rfl

/-! ### Solo and the Census (chapter 7) -/

@[simp] theorem State.leadTerms_judgeSolo : s.judgeSolo.leadTerms = s.leadTerms := by
  unfold State.judgeSolo
  split
  · rfl
  · exact State.leadTerms_mapStrips { s with census.soloActive := s.soloWanted } fun _ => rfl

@[simp] theorem State.leadTerms_soloChanged (n : StripNo) : (s.soloChanged n).leadTerms = s.leadTerms := by
  unfold State.soloChanged
  split
  · exact s.leadTerms_setStrip rfl
  · exact s.leadTerms_judgeSolo

@[simp] theorem State.leadTerms_actSolo (source : Member) (strip state : Byte) :
    (s.actSolo source strip state).leadTerms = s.leadTerms := by
  refine s.leadTerms_stripsCommand _ _ _ fun n t => ?_
  have hsoloed (soloed : Bool) : (t.setStrip n { t.strip n with soloed }).leadTerms = t.leadTerms :=
    t.leadTerms_setStrip rfl
  unfold State.soloStrip State.unsoloStrip
  split_ifs
  · rfl
  · rw [State.leadTerms_soloChanged, State.leadTerms_announce]
    exact hsoloed true
  · rw [State.leadTerms_soloChanged, State.leadTerms_announce]
    exact hsoloed false
  · rfl

/-- R120: what other members' solo announcements teach is of the Census. -/
theorem State.leadTerms_soloAnnounced (source : Member) (strip : Byte) {act : Key → State → State}
    (hact : ∀ k, (act k s).leadTerms = s.leadTerms) : (s.soloAnnounced source strip act).leadTerms = s.leadTerms := by
  unfold State.soloAnnounced
  split
  · exact hact _
  · rfl

@[simp] theorem State.leadTerms_learnKey (k : Key) : (s.learnKey k).leadTerms = s.leadTerms := by
  have hlearn (t : State) (i : Fin 3) : (t.learnIn i k).leadTerms = t.leadTerms := by
    unfold State.learnIn
    dsimp only
    split <;> rfl
  rw [State.learnKey, State.leadTerms_judgeSolo, hlearn, hlearn]

@[simp] theorem State.leadTerms_removeKey (k : Key) : (s.removeKey k).leadTerms = s.leadTerms :=
  State.leadTerms_judgeSolo _

@[simp] theorem State.leadTerms_rotate : s.rotate.leadTerms = s.leadTerms := State.leadTerms_judgeSolo _

@[simp] theorem State.leadTerms_rotateOrHold : s.rotateOrHold.leadTerms = s.leadTerms := by
  unfold State.rotateOrHold
  split
  · rfl
  · exact s.leadTerms_rotate

@[simp] theorem State.leadTerms_markSoloed : s.markSoloed.leadTerms = s.leadTerms := by
  refine State.leadTerms_of_blocks ?_ ?_ ?_ <;> rw [State.markSoloed_frame]

@[simp] theorem State.leadTerms_clearStep (i : Fin 128) : (s.clearStep i).leadTerms = s.leadTerms := by
  unfold State.clearStep State.clearingDone
  dsimp only
  split
  · rfl
  · split
    · exact State.leadTerms_rotate _
    · rfl

/-- R131, R144: the refresh walk clears a mark and may restate a claim. -/
@[simp] theorem State.leadTerms_takeMark : s.takeMark.leadTerms = s.leadTerms := by
  have hmark (g : GroupNo) : (s.setGroup g { s.group g with mark := false }).leadTerms = s.leadTerms :=
    s.leadTerms_setGroup rfl rfl
  unfold State.takeMark State.claimRefresh
  split
  · exact State.leadTerms_announce ..
  · split
    · split
      · split
        · exact (State.leadTerms_announce ..).trans (hmark _)
        · exact hmark _
      · exact hmark _
    · rfl

/-! ### Capture units (chapter 9) -/

@[simp] theorem State.leadTerms_releaseBinding (u : UnitNo) : (s.releaseBinding u).leadTerms = s.leadTerms := by
  refine State.leadTerms_congr (fun n => ?_) (by rw [State.releaseBinding_eq]) (by rw [State.releaseBinding_eq])
  rw [State.strip_releaseBinding]
  split <;> rfl

/-- A unit's event reaches units and bindings. -/
theorem State.UnitsBecome.leadTerms {s t : State} {c : UnitNo → CaptureUnit} (h : s.UnitsBecome t c) :
    t.leadTerms = s.leadTerms :=
  State.leadTerms_congr (fun n => (h.strip n).leadTerms) (by rw [h.frame]) (by rw [h.frame])

@[simp] theorem State.leadTerms_endDrain (u : UnitNo) : (s.endDrain u).leadTerms = s.leadTerms := by
  rw [State.endDrain_eq]
  rfl

@[simp] theorem State.leadTerms_endEmpty (u : UnitNo) (conditions : Byte) :
    (s.endEmpty u conditions).leadTerms = s.leadTerms :=
  (State.leadTerms_endDrain ..).trans (State.leadTerms_releaseBinding ..)

@[simp] theorem State.leadTerms_actCaptureStart (source : Member) (f : CaptureStartFields) :
    (s.actCaptureStart source f).leadTerms = s.leadTerms := by
  have harmed (u : UnitNo) (settings : CaptureSettings) : (s.startArmed u settings).leadTerms = s.leadTerms := by
    have hbound (t : State) (n : StripNo) (binding : Option UnitNo) :
        (t.setStrip n { t.strip n with binding }).leadTerms = t.leadTerms := t.leadTerms_setStrip rfl
    unfold State.startArmed
    dsimp only
    split
    · exact (State.enterWriting_becomes ..).leadTerms.trans (hbound (s.setUnit u _) _ _)
    · exact hbound (s.setUnit u _) _ _
  unfold State.actCaptureStart
  split
  · split_ifs <;> simp [State.startEnded, harmed]
  · exact s.leadTerms_refuse ..

@[simp] theorem State.leadTerms_actCaptureStop (source : Member) (unit : Byte) :
    (s.actCaptureStop source unit).leadTerms = s.leadTerms := by
  refine s.leadTerms_unitCommand _ _ _ fun u => ?_
  unfold State.stopUnit
  split
  case h_1 | h_2 => exact (State.finish_becomes ..).leadTerms
  case h_3 => exact s.leadTerms_endEmpty ..
  all_goals exact s.leadTerms_refuse ..

@[simp] theorem State.leadTerms_actCaptureSuspend (source : Member) (unit : Byte) :
    (s.actCaptureSuspend source unit).leadTerms = s.leadTerms := by
  refine s.leadTerms_unitCommand _ _ _ fun u => ?_
  unfold State.suspendUnit
  split
  · rfl
  · exact s.leadTerms_refuse ..

@[simp] theorem State.leadTerms_actCaptureResume (source : Member) (unit : Byte) :
    (s.actCaptureResume source unit).leadTerms = s.leadTerms := by
  refine s.leadTerms_unitCommand _ _ _ fun u => ?_
  unfold State.resumeUnit
  split
  · rfl
  · exact s.leadTerms_refuse ..

@[simp] theorem State.leadTerms_actCaptureClear (source : Member) (unit : Byte) :
    (s.actCaptureClear source unit).leadTerms = s.leadTerms := by
  refine s.leadTerms_unitCommand _ _ _ fun u => ?_
  unfold State.clearUnit
  split
  case h_1 | h_2 | h_3 => exact s.leadTerms_endEmpty ..
  case h_4 => exact State.leadTerms_releaseBinding ..
  all_goals rfl

@[simp] theorem State.leadTerms_packingTurn (u : UnitNo) : (s.packingTurn u).leadTerms = s.leadTerms := by
  have hheld (t : State) : (t.offerHeldEnd u).leadTerms = t.leadTerms := by
    unfold State.offerHeldEnd
    dsimp only
    split
    · split
      · exact State.leadTerms_offer ..
      · rfl
    · rfl
  have hwork (t : State) : (t.turnWork u).leadTerms = t.leadTerms := by
    unfold State.turnWork
    dsimp only
    split
    · exact hheld t
    · split_ifs <;> simp [State.pack]
  exact hwork _

/-! ### Messages, periods, emission, samples and outputs (chapters 1, 3, 4, 5 and 11) -/

@[simp] theorem State.leadTerms_loseEntries (n : Nat) : (s.loseEntries n).leadTerms = s.leadTerms := by
  induction n generalizing s with
  | zero => rfl
  | succ n ih => exact ih _

@[simp] theorem State.leadTerms_ownReturn (kind : Byte) : (s.ownReturn kind).leadTerms = s.leadTerms := by
  unfold State.ownReturn
  split
  · exact State.leadTerms_loseEntries ..
  · split <;> rfl

@[simp] theorem State.leadTerms_timeoutEntries : s.timeoutEntries.leadTerms = s.leadTerms := State.leadTerms_loseEntries ..

@[simp] theorem State.leadTerms_insert : s.insert.leadTerms = s.leadTerms := by
  obtain ⟨_, _, _, h, -⟩ := s.insert_cases
  rw [h]
  rfl

@[simp] theorem State.leadTerms_emit : s.emit.leadTerms = s.leadTerms := by
  calc s.emit.leadTerms = s.insert.handOffs.leadTerms := rfl
    _ = s.insert.leadTerms := by
      unfold State.handOffs
      split
      · exact State.leadTerms_of_blocks (State.latchAnchors_engine ..) (State.latchAnchors_groups ..)
          (State.latchAnchors_clock ..)
      · rfl
    _ = s.leadTerms := s.leadTerms_insert

@[simp] theorem State.leadTerms_processOutputs : s.processOutputs.leadTerms = s.leadTerms := by
  rw [State.processOutputs_frame]
  rfl

@[simp] theorem State.leadTerms_closePeriod : s.closePeriod.leadTerms = s.leadTerms := by
  rw [State.closePeriod_eq]
  rfl

@[simp] theorem State.leadTerms_openPeriod : s.openPeriod.leadTerms = s.leadTerms := rfl

@[simp] theorem State.leadTerms_lockEdge : s.lockEdge.leadTerms = s.leadTerms := by
  unfold State.lockEdge
  split <;> rfl

@[simp] theorem State.leadTerms_countGood : s.countGood.leadTerms = s.leadTerms := by
  unfold State.countGood
  split <;> rfl

/-- R54: a processed strip moves its ramp and peak, and its placement where a swap completes. -/
theorem State.processed_leadTerms (x : Int) (st : Strip) : (s.processed x st).leadTerms = st.leadTerms := by
  unfold State.processed
  dsimp only
  split <;> rfl

@[simp] theorem State.leadTerms_processSamples (samples : List Sample) :
    (s.processSamples samples).leadTerms = s.leadTerms := by
  refine State.leadTerms_congr (fun n => ?_) (by rw [State.processSamples_eq]) (by rw [State.processSamples_eq])
  rw [State.strip_processSamples, State.processed_leadTerms]

@[simp] theorem State.leadTerms_profileTaken (l : ProfileLoad) : (s.profileTaken l).leadTerms = s.leadTerms := by
  rw [State.profileTaken, State.leadTerms_foldl fun _ _ => State.leadTerms_latchNode ..]
  have hglide : (s.mapStrips fun _ st => { st with glide := l.profile.glide }).leadTerms = s.leadTerms :=
    s.leadTerms_mapStrips fun _ => rfl
  generalize s.mapStrips _ = x at hglide ⊢
  exact hglide

@[simp] theorem State.leadTerms_actOutputSet (source : Member) (f : OutputSetFields) :
    (s.actOutputSet source f).leadTerms = s.leadTerms := by
  unfold State.actOutputSet
  split
  · rfl
  · split
    · exact s.leadTerms_refuse ..
    · split
      · rfl
      · exact s.leadTerms_refuse ..

/-! ### Reports and queries (chapters 5 and 10) -/

@[simp] theorem State.leadTerms_meterReports : s.meterReports.leadTerms = s.leadTerms := by
  have hstrip (t : State) (b : Nat) : (t.stripMeter b).leadTerms = t.leadTerms := by
    unfold State.stripMeter
    split
    · refine (State.leadTerms_mapStrips _ fun n => ?_).trans (t.leadTerms_offer _)
      split <;> rfl
    · rfl
  have hanchor (t : State) (b : Nat) : (t.anchorMeter b).leadTerms = t.leadTerms := by
    unfold State.anchorMeter
    split
    · exact State.leadTerms_offer ..
    · rfl
  rw [State.meterReports, State.leadTerms_foldl hanchor, State.leadTerms_foldl hstrip]

@[simp] theorem State.leadTerms_visit (src : SourceNo) : (s.visit src).leadTerms = s.leadTerms := by
  unfold State.visit
  split
  · exact State.leadTerms_offer ..
  · rfl

theorem State.leadTerms_answer (source : Member) (item : QueryItem) (object : Byte) (shares : List ReplyShare)
    {after : State → State} (hafter : ∀ t, (after t).leadTerms = t.leadTerms) :
    (s.answer source item object shares after).leadTerms = s.leadTerms := by
  unfold State.answer
  split
  · exact s.leadTerms_refuse ..
  · rw [hafter, State.leadTerms_foldl fun t _ => State.leadTerms_offer ..]

section
variable (source : Member) (object : Byte)

@[simp] theorem State.leadTerms_actQueryStrip : (s.actQueryStrip source object).leadTerms = s.leadTerms := by
  unfold State.actQueryStrip
  split
  · exact State.leadTerms_answer _ _ _ _ _ fun _ => rfl
  · exact State.leadTerms_refuse ..

@[simp] theorem State.leadTerms_actQueryCues : (s.actQueryCues source object).leadTerms = s.leadTerms := by
  unfold State.actQueryCues
  split
  · exact State.leadTerms_answer _ _ _ _ _ fun _ => rfl
  · exact State.leadTerms_refuse ..

@[simp] theorem State.leadTerms_actQueryCensus : (s.actQueryCensus source object).leadTerms = s.leadTerms :=
  State.leadTerms_answer _ _ _ _ _ fun _ => rfl

@[simp] theorem State.leadTerms_actQueryGroup : (s.actQueryGroup source object).leadTerms = s.leadTerms := by
  unfold State.actQueryGroup
  split
  · exact State.leadTerms_answer _ _ _ _ _ fun _ => rfl
  · exact State.leadTerms_refuse ..

@[simp] theorem State.leadTerms_actQueryCapture : (s.actQueryCapture source object).leadTerms = s.leadTerms := by
  unfold State.actQueryCapture
  split
  · exact State.leadTerms_answer _ _ _ _ _ fun _ => rfl
  · exact State.leadTerms_refuse ..

@[simp] theorem State.leadTerms_actQueryAnchor : (s.actQueryAnchor source object).leadTerms = s.leadTerms := by
  unfold State.actQueryAnchor
  split
  · exact State.leadTerms_answer _ _ _ _ _ fun _ => rfl
  · exact State.leadTerms_refuse ..

@[simp] theorem State.leadTerms_actQueryCounters (clear : Byte) :
    (s.actQueryCounters source object clear).leadTerms = s.leadTerms := by
  refine State.leadTerms_answer _ _ _ _ _ fun t => ?_
  split <;> rfl

@[simp] theorem State.leadTerms_actQuery (item clear : Byte) :
    (s.actQuery source item object clear).leadTerms = s.leadTerms := by
  unfold State.actQuery
  split <;> simp [State.refuseQuery]

end

end

end Sys2Proof.Machine
end

section
/-! O57: every command keeps local leads touched members of their groups (R134). -/

namespace Sys2Proof.Machine

open Sys2Proof

/-! ### A sound entry -/

/-- R134: what a strip that leads group `g` is. -/
def Strip.MayLead (g : GroupNo) (st : Strip) : Prop := st.linkGroup = some g ∧ st.touched = true ∧ st.mode ≠ .read

theorem Strip.MayLead.of_leadTerms {g : GroupNo} {a b : Strip} (h : a.MayLead g) (e : b.leadTerms = a.leadTerms) :
    b.MayLead g := by
  simp only [Strip.leadTerms, Prod.mk.injEq] at e
  obtain ⟨hgroup, htouched, hmode⟩ := e
  rwa [Strip.MayLead, hgroup, htouched, hmode]

/-- R134: an entry that the Group Table may hold for group `g`: a local lead may lead, and the silent count, at most 1, is 0
without a remote lead. -/
structure State.SoundEntry (s : State) (g : GroupNo) (e : GroupEntry) : Prop where
  held : ∀ k ∈ e.lead, k.member = s.clock.member → (s.strip k.strip).MayLead g
  recent : e.silent ≤ 1
  heard : (∀ k ∈ e.lead, k.member = s.clock.member) → e.silent = 0

/-- `State.LeadsSound`, entry by entry. -/
structure State.LeadsKept (s : State) : Prop where
  entry : ∀ g : GroupNo, s.SoundEntry g (s.group g)

/-- R134: a lead that is none or local, said of the lead's key. -/
theorem State.noRemoteLead_iff {s : State} {g : GroupNo} :
    ((s.group g).lead = none ∨ s.leadIsLocal g = true) ↔ ∀ k ∈ (s.group g).lead, k.member = s.clock.member := by
  unfold State.leadIsLocal
  cases (s.group g).lead <;> simp

theorem State.leadsKept_iff (s : State) : s.LeadsKept ↔ s.LeadsSound := by
  refine ⟨fun h g => ?_, fun h => ⟨fun g => ?_⟩⟩
  · obtain ⟨held, recent, heard⟩ := h.entry g
    exact ⟨held, recent, fun hlocal => heard (State.noRemoteLead_iff.mp hlocal)⟩
  · obtain ⟨held, recent, heard⟩ := h g
    exact ⟨held, recent, fun hlocal => heard (State.noRemoteLead_iff.mpr hlocal)⟩

section
variable {s : State} {g : GroupNo}

/-- R134: an entry without a lead. -/
theorem State.soundEntry_of_none {e : GroupEntry} (hlead : e.lead = none) (hsilent : e.silent = 0) : s.SoundEntry g e :=
  ⟨by simp [hlead], by omega, fun _ => hsilent⟩

/-- R136: an entry with a lead of this node. -/
theorem State.soundEntry_of_own {e : GroupEntry} {n : StripNo} (hlead : e.lead = some (s.ownKey n)) (hsilent : e.silent = 0)
    (hn : (s.strip n).MayLead g) : s.SoundEntry g e where
  held k hk _ := by
    rw [hlead, Option.mem_some] at hk
    exact hk ▸ hn
  recent := by omega
  heard _ := hsilent

/-- R140, R143: an entry with a lead of another member. -/
theorem State.soundEntry_of_remote {e : GroupEntry} {k : Key} (hlead : e.lead = some k) (hremote : k.member ≠ s.clock.member)
    (hsilent : e.silent ≤ 1) : s.SoundEntry g e where
  held l hl hown := by
    rw [hlead, Option.mem_some] at hl
    exact absurd (hl ▸ hown) hremote
  recent := hsilent
  heard hlocal := absurd (hlocal k hlead) hremote

/-- R140, R142, R143: a sound entry with its lead as it was, heard from again, marked or not. -/
theorem State.SoundEntry.heardAgain {e e' : GroupEntry} (h : s.SoundEntry g e) (hlead : e'.lead = e.lead)
    (hsilent : e'.silent = 0) : s.SoundEntry g e' :=
  ⟨by rw [hlead]; exact h.held, by omega, fun _ => hsilent⟩

/-- R135: the waiter a hand-on finds may lead. -/
theorem State.mayLead_of_firstWaiter {n : StripNo} (h : s.firstWaiter g = some n) : (s.strip n).MayLead g := by
  have hwaits : s.isWaiter g n = true := List.find?_some h
  simp only [State.isWaiter, State.isMember, Bool.and_eq_true, beq_iff_eq, bne_iff_ne] at hwaits
  obtain ⟨⟨⟨hmember, htouched⟩, hmode⟩, -⟩ := hwaits
  exact ⟨hmember, htouched, hmode⟩

/-- A strip that leads a group is one that may lead it. -/
theorem State.LeadsKept.mayLead (h : s.LeadsKept) {n : StripNo} (hleads : s.leads g n = true) : (s.strip n).MayLead g := by
  rw [State.leads, beq_iff_eq] at hleads
  exact (h.entry g).held _ hleads rfl

end

/-- R134, R168, R171: a reset leaves no lead, whosever node it is. -/
theorem State.leadsKept_of_reset {s : State} (h : s.groups = groupsReset) : s.LeadsKept := by
  refine ⟨fun g => ?_⟩
  have hgroup : s.group g = GroupEntry.reset := by rw [State.group, h]; exact State.group_reset g
  rw [hgroup]
  exact State.soundEntry_of_none rfl rfl

section
variable {s : State} (h : s.LeadsKept)
include h

/-! ### What keeps the entries sound -/

theorem State.LeadsKept.of_leadTerms {t : State} (e : t.leadTerms = s.leadTerms) : t.LeadsKept := by
  refine ⟨fun g => ?_⟩
  simp only [State.leadTerms, Prod.mk.injEq] at e
  obtain ⟨hstrips, hgroups, hmember⟩ := e
  have hentry : ((t.group g).lead, (t.group g).silent) = ((s.group g).lead, (s.group g).silent) := congrFun hgroups g
  obtain ⟨hlead, hsilent⟩ := Prod.mk.inj hentry
  obtain ⟨held, recent, heard⟩ := h.entry g
  refine ⟨fun k hk hown => ?_, hsilent ▸ recent, fun hlocal => ?_⟩
  · exact (held k (hlead ▸ hk) (hmember ▸ hown)).of_leadTerms (congrFun hstrips k.strip)
  · rw [hsilent]
    exact heard (hlead ▸ hmember ▸ hlocal)

/-- A step under a condition, and otherwise nothing. -/
theorem State.LeadsKept.ite {t : State} {p : Prop} [Decidable p] (ht : p → t.LeadsKept) : (if p then t else s).LeadsKept := by
  split
  · exact ht ‹_›
  · exact h

omit h in
/-- A fold of steps that keep the entries sound. -/
theorem State.LeadsKept.foldl {α : Type} {f : State → α → State} (hf : ∀ t a, t.LeadsKept → (f t a).LeadsKept) (l : List α)
    {s : State} (h : s.LeadsKept) : (l.foldl f s).LeadsKept := by
  induction l generalizing s with
  | nil => exact h
  | cons a l ih => exact ih (hf s a h)

theorem State.LeadsKept.setGroup {g : GroupNo} {e : GroupEntry} (he : s.SoundEntry g e) : (s.setGroup g e).LeadsKept := by
  refine ⟨fun k => ?_⟩
  have hentry : s.SoundEntry k ((s.setGroup g e).group k) := by
    rw [State.group_setGroup]
    split
    · rename_i hk
      exact hk ▸ he
    · exact h.entry k
  exact ⟨hentry.held, hentry.recent, hentry.heard⟩

/-- A record may be written wherever the strip may still lead what it leads. -/
theorem State.LeadsKept.setStrip {n : StripNo} {st : Strip} (hst : ∀ g, s.leads g n = true → st.MayLead g) :
    (s.setStrip n st).LeadsKept := by
  refine ⟨fun g => ⟨fun k hk hown => ?_, (h.entry g).recent, (h.entry g).heard⟩⟩
  rw [State.strip_setStrip]
  split
  · rename_i e
    have hkey : s.ownKey n = k := by
      rw [State.ownKey, e]
      exact congrArg (Key.mk · k.strip) hown.symm
    exact hst g (beq_iff_eq.mpr (hkey ▸ hk))
  · exact (h.entry g).held k hk hown

/-! ### Claims, releases and hand-ons (R135 to R138) -/

theorem State.LeadsKept.takeLead {g : GroupNo} {n : StripNo} (hn : (s.strip n).MayLead g) : (s.takeLead g n).LeadsKept :=
  (h.setGroup (State.soundEntry_of_own rfl rfl hn)).of_leadTerms (State.leadTerms_announce ..)

theorem State.LeadsKept.handOn (g : GroupNo) : (s.handOn g).LeadsKept := by
  unfold State.handOn
  split
  · exact h.takeLead (State.mayLead_of_firstWaiter ‹_›)
  · exact h

/-- R136: a touched strip in a mode other than READ is handed to the Group Table. -/
theorem State.LeadsKept.groupTouch {n : StripNo} (htouched : (s.strip n).touched = true) (hmode : (s.strip n).mode ≠ .read) :
    (s.groupTouch n).LeadsKept := by
  unfold State.groupTouch
  split
  · rename_i g hgroup
    exact h.ite fun _ => h.takeLead ⟨hgroup, htouched, hmode⟩
  · exact h

/-- R138: any record may be written for a strip whose lead of a group is released, as far as it may still lead the other groups
it leads. -/
theorem State.LeadsKept.setStrip_releaseIfLead {group : Option GroupNo} {n : StripNo} {st : Strip}
    (hst : ∀ g, group ≠ some g → s.leads g n = true → st.MayLead g) :
    ((s.setStrip n st).releaseIfLead group n).LeadsKept := by
  by_cases hreleases : ∃ g, group = some g ∧ s.leads g n = true
  · obtain ⟨g, rfl, hleads⟩ := hreleases
    rw [State.releaseIfLead_of_leads (s := s.setStrip n st) hleads, State.releaseLead]
    have hcleared : (s.setGroup g { (s.group g).cleared with mark := false }).LeadsKept :=
      h.setGroup (State.soundEntry_of_none rfl rfl)
    have hwritten := hcleared.setStrip (n := n) (st := st) fun g' hleads' => by
      rw [State.leads, State.group_setGroup] at hleads'
      split at hleads'
      · cases hleads'
      · rename_i hne
        exact hst g' (fun e => hne (Option.some.inj e)) hleads'
    exact (hwritten.of_leadTerms (State.leadTerms_announce ..)).handOn g
  · simp only [not_exists, not_and, Bool.not_eq_true] at hreleases
    rw [State.releaseIfLead_of_not_lead (s := s.setStrip n st) hreleases]
    exact h.setStrip fun g hleads => hst g (fun e => absurd (hreleases g e) (by simp [hleads])) hleads

/-- R138: any record may be written for a strip that gives up the lead of the group it was a member of. -/
theorem State.LeadsKept.setStrip_released (n : StripNo) (st : Strip) :
    ((s.setStrip n st).releaseIfLead (s.strip n).linkGroup n).LeadsKept :=
  h.setStrip_releaseIfLead fun _ hne hleads => absurd (h.mayLead hleads).1 hne

/-! ### STRIP SET (R27 to R32) -/

/-- R30: the link group field releases the lead of the group the strip leaves. -/
theorem State.LeadsKept.setLinkField (f : StripSetFields) (n : StripNo) : (s.setLinkField f n).LeadsKept := by
  unfold State.setLinkField
  exact h.ite fun _ => h.setStrip_released n _

/-- R31: another mode than READ leaves a lead as it is, and entering READ releases it. -/
theorem State.LeadsKept.setModeField (f : StripSetFields) (n : StripNo) : (s.setModeField f n).LeadsKept := by
  unfold State.setModeField
  split
  · rename_i m _
    refine h.ite fun _ => ?_
    dsimp only
    split
    · exact h.setStrip_released n _
    · rename_i hread
      refine h.setStrip fun g hleads => ?_
      obtain ⟨hgroup, htouched, -⟩ := h.mayLead hleads
      rw [Strip.changeMode_eq]
      exact ⟨hgroup, htouched, hread⟩
  · exact h

theorem State.LeadsKept.applyStripSet (f : StripSetFields) (n : StripNo) : (s.applyStripSet f n).LeadsKept := by
  have hglide : (s.setGlideField f n).LeadsKept := by
    rw [State.setGlideField_eq]
    exact h.of_leadTerms (s.leadTerms_setStrip rfl)
  have hmoded := (hglide.setLinkField f n).setModeField f n
  unfold State.applyStripSet
  dsimp only
  split <;> exact hmoded.of_leadTerms (State.leadTerms_setStrip _ rfl)

theorem State.LeadsKept.actStripSet (source : Member) (f : StripSetFields) : (s.actStripSet source f).LeadsKept := by
  unfold State.actStripSet State.stripsCommand State.stripCommand
  split_ifs
  · exact h.of_leadTerms (s.leadTerms_refuse ..)
  · exact h.foldl (fun t n ht => ht.applyStripSet f n) allStrips
  · split
    · exact h.applyStripSet f _
    · exact h.of_leadTerms (s.leadTerms_refuse ..)

/-! ### Touch and release edges (R102, R103) -/

/-- R102: the edge leaves every lead, and may bring one about. -/
theorem State.LeadsKept.touchOn (n : StripNo) : (s.touchOn n).LeadsKept := by
  have hedged : (s.setStrip n ((s.strip n).touchEdge s.clock.rolling)).LeadsKept := h.setStrip fun g hleads => by
    obtain ⟨hgroup, -, hmode⟩ := h.mayLead hleads
    exact ⟨hgroup, rfl, hmode⟩
  unfold State.touchOn
  split
  · exact h
  · refine State.LeadsKept.of_leadTerms ?_ (State.leadTerms_captureEdge ..)
    split
    · exact hedged
    · rename_i hmode
      exact hedged.groupTouch (by rw [State.strip_setStrip_same]; rfl) (by rw [State.strip_setStrip_same]; exact hmode)

/-- R103: the edge releases the lead the strip holds; in READ it holds none. -/
theorem State.LeadsKept.touchOff (n : StripNo) : (s.touchOff n).LeadsKept := by
  unfold State.touchOff
  refine h.ite fun _ => ?_
  dsimp only
  rw [State.setStripEffective_released]
  refine State.LeadsKept.of_leadTerms ?_ (State.leadTerms_captureEdge ..)
  split
  · rename_i hread
    refine h.setStrip fun g hleads => ?_
    obtain ⟨-, -, hmode⟩ := h.mayLead hleads
    exact absurd hread hmode
  · exact h.setStrip_released n _

theorem State.LeadsKept.actTouch (source : Member) (strip touched : Byte) : (s.actTouch source strip touched).LeadsKept := by
  unfold State.actTouch State.stripCommand
  split
  · split
    · exact h.touchOn _
    · exact h.touchOff _
  · exact h.of_leadTerms (s.leadTerms_refuse ..)

/-! ### Announcements of other members (R140 to R142) -/

theorem State.LeadsKept.takeClaim (g : GroupNo) {k : Key} (hremote : k.member ≠ s.clock.member) :
    (s.takeClaim g k).LeadsKept := by
  unfold State.takeClaim
  split
  · exact h.setGroup (State.soundEntry_of_remote rfl hremote (Nat.zero_le 1))
  · split_ifs
    · exact h.setGroup ((h.entry g).heardAgain rfl rfl)
    · exact h.setGroup (State.soundEntry_of_remote rfl hremote (Nat.zero_le 1))
    · exact h

theorem State.LeadsKept.takeRelease (g : GroupNo) (k : Key) : (s.takeRelease g k).LeadsKept := by
  unfold State.takeRelease
  exact h.ite fun _ => (h.setGroup (State.soundEntry_of_none rfl rfl)).handOn g

theorem State.LeadsKept.takeDelta (g : GroupNo) (k : Key) (change : Int) : (s.takeDelta g k change).LeadsKept := by
  have happlied : (s.applyDelta g change).LeadsKept := h.of_leadTerms (s.leadTerms_applyDelta g change)
  unfold State.takeDelta
  split
  · refine happlied.setGroup ((happlied.entry g).heardAgain ?_ rfl)
    rw [State.group_applyDelta]
  · exact h.of_leadTerms rfl

/-- Section 8.4: an announcement is of a key of its source. -/
theorem State.LeadsKept.announced (source : Member) (group strip : Byte) {act : GroupNo → Key → State → State}
    (hact : ∀ g k, k.member = source → (act g k s).LeadsKept) : (s.announced source group strip act).LeadsKept := by
  unfold State.announced
  split
  · exact hact _ _ rfl
  · exact h

/-! ### Aging (R125, R126, R143) -/

/-- R143: a local lead stays, a remote one is silent once more or lapses, and a waiter may lead in its place. -/
theorem State.LeadsKept.soundEntry_aged (g : GroupNo) : s.SoundEntry g (s.agedEntry g) := by
  unfold State.agedEntry
  split
  · exact h.entry g
  · rename_i k hlead
    split_ifs with hlocal hsilent
    · exact ⟨(h.entry g).held, (h.entry g).recent, (h.entry g).heard⟩
    · exact State.soundEntry_of_remote hlead hlocal le_rfl
    · cases hwaiter : s.firstWaiter g with
      | none => exact State.soundEntry_of_none rfl rfl
      | some n => exact State.soundEntry_of_own rfl rfl (State.mayLead_of_firstWaiter hwaiter)

theorem State.LeadsKept.ageGroup (g : GroupNo) : (s.ageGroup g).LeadsKept := by
  refine (h.setGroup (h.soundEntry_aged g)).of_leadTerms ?_
  rw [State.ageGroup_eq]
  split
  · unfold State.claimFor
    split
    · exact State.leadTerms_announce ..
    · rfl
  · rfl

theorem State.LeadsKept.restartAging : s.restartAging.LeadsKept := by
  have hrestarted : ({ s with census.agingCount := 0 } : State).LeadsKept := h.of_leadTerms rfl
  have hrotated := hrestarted.of_leadTerms (State.leadTerms_rotateOrHold _)
  exact (hrotated.foldl (fun t g ht => ht.ageGroup g) _).of_leadTerms (State.leadTerms_markSoloed _)

/-! ### Messages and arrivals (R82 to R85) -/

theorem State.LeadsKept.whenActing (source : Member) {act : State → State}
    (hact : source ≠ s.clock.member → (act s).LeadsKept) : (s.whenActing source act).LeadsKept :=
  h.ite fun hacts => hact fun e => by simp [e] at hacts

theorem State.LeadsKept.actGroupClaim {source : Member} (hsource : source ≠ s.clock.member) (group strip : Byte) :
    (s.actGroupClaim source group strip).LeadsKept :=
  h.announced _ _ _ fun g _ hk => h.takeClaim g (hk ▸ hsource)

theorem State.LeadsKept.actGroupRelease (source : Member) (group strip : Byte) :
    (s.actGroupRelease source group strip).LeadsKept := h.announced _ _ _ fun g k _ => h.takeRelease g k

theorem State.LeadsKept.actGroupDelta (source : Member) (group strip : Byte) (change : BitVec 16) :
    (s.actGroupDelta source group strip change).LeadsKept := h.announced _ _ _ fun g k _ => h.takeDelta g k _

theorem State.LeadsKept.act (kind : Byte) {source : Member} (hsource : source ≠ s.clock.member) (p : List Byte) :
    (s.act kind source p).LeadsKept := by
  unfold State.act
  split
  case h_1 => exact h.actStripSet ..
  case h_5 => exact h.actTouch ..
  case h_17 => exact h.restartAging
  case h_18 => exact State.leadsKept_of_reset rfl
  case h_19 => exact h.actGroupClaim hsource ..
  case h_20 => exact h.actGroupRelease ..
  case h_21 => exact h.actGroupDelta ..
  case h_22 | h_23 => exact h.of_leadTerms (s.leadTerms_soloAnnounced _ _ s.leadTerms_learnKey)
  case h_24 => exact h.of_leadTerms (s.leadTerms_soloAnnounced _ _ s.leadTerms_removeKey)
  case h_16 | h_25 => exact h.of_leadTerms rfl
  all_goals exact h.of_leadTerms (by simp)

theorem State.LeadsKept.takeSlot {c : SlotCase} (hc : ∀ source m, c = .other source m → source ≠ s.clock.member) :
    (s.takeSlot c).LeadsKept := by
  unfold State.takeSlot
  split
  · exact h
  · exact h.ite fun _ => h.of_leadTerms (s.leadTerms_ownReturn _)
  · exact h.of_leadTerms rfl
  · exact h.ite fun _ => h.act _ (hc _ _ rfl) _

theorem State.LeadsKept.arrival (bytes : List Byte) : (s.arrival bytes).LeadsKept := by
  unfold State.arrival
  split
  · exact h.of_leadTerms rfl
  · split
    · have hplaced : (s.placeArrival bytes).LeadsKept := h.of_leadTerms rfl
      have htaken := hplaced.takeSlot (c := classify s.clock.member (frameSlot bytes)) fun _ _ => classify_other_ne
      exact htaken.ite fun _ => htaken.of_leadTerms (State.leadTerms_countGood _)
    · exact h.of_leadTerms rfl

/-! ### Commands -/

theorem State.LeadsKept.begun_emit : s.begun.emit.LeadsKept :=
  h.of_leadTerms ((State.leadTerms_emit _).trans s.leadTerms_begun)

theorem execWordClockEdge_leadsKept (e : Edge) : ∃ t, execWordClockEdge e s = .next t ∧ t.LeadsKept := by
  refine ⟨_, rfl, ?_⟩
  split
  case h_1 | h_2 => exact h
  case h_3 => exact h.of_leadTerms s.leadTerms_lockEdge
  case h_6 | h_7 => exact h.of_leadTerms (by simp)
  all_goals exact h.of_leadTerms rfl

theorem execRefreshWalkTurn_leadsKept : ∃ t, execRefreshWalkTurn s = .next t ∧ t.LeadsKept := by
  have hturned : ({ s with clock.taken.walked := true } : State).LeadsKept := h.of_leadTerms rfl
  exact ⟨_, rfl, h.ite fun _ => hturned.ite fun _ => hturned.of_leadTerms (State.leadTerms_takeMark _)⟩

theorem execMeterEvent_leadsKept : ∃ t, execMeterEvent s = .next t ∧ t.LeadsKept := by
  have hrestarted : ({ s with reports.meterCount := 0 } : State).LeadsKept := h.of_leadTerms rfl
  exact ⟨_, rfl, h.ite fun _ => hrestarted.ite fun _ => hrestarted.of_leadTerms (State.leadTerms_meterReports _)⟩

theorem execCensusClearing_leadsKept : ∃ t, execCensusClearing s = .next t ∧ t.LeadsKept := by
  refine ⟨_, rfl, ?_⟩
  split
  · exact h.ite fun _ => h.of_leadTerms (s.leadTerms_clearStep _)
  · exact h

/-- Every command answers a state with its leads sound. -/
theorem exec_leadsKept (c : Instr) : ∃ t, exec c s = .next t ∧ t.LeadsKept := by
  have hwhen {t : State} {p : Prop} [Decidable p] (e : t.leadTerms = s.leadTerms) : (if p then t else s).LeadsKept :=
    h.ite fun _ => h.of_leadTerms e
  have hact {act : State → State} (source : Member) (e : (act s).leadTerms = s.leadTerms) :
      (s.whenActing source act).LeadsKept := h.whenActing source fun _ => h.of_leadTerms e
  cases c with
  | powerReset => exact ⟨_, rfl, State.leadsKept_of_reset rfl⟩
  | powerResetRelease straps => exact ⟨_, rfl, h.ite fun _ => State.leadsKept_of_reset rfl⟩
  | profileReadEnd memory => exact ⟨_, rfl, hwhen (s.leadTerms_profileTaken _)⟩
  | lockGained => exact ⟨_, rfl, hwhen rfl⟩
  | lossOfLock => exact ⟨_, rfl, hwhen rfl⟩
  | joining frame => exact ⟨_, rfl, h.ite fun _ => h.arrival frame⟩
  | quietWindowEnd => exact ⟨_, rfl, hwhen rfl⟩
  | frameArrival frame => exact ⟨_, rfl, h.ite fun _ => h.arrival frame⟩
  | frameEmission => exact ⟨_, rfl, h.ite fun _ => h.begun_emit⟩
  | faultBegun anchor => exact ⟨_, rfl, h.ite fun _ => h.begun_emit⟩
  | runCompleted anchor => exact ⟨_, rfl, h.ite fun _ => h.begun_emit⟩
  | realignSwitch anchor => exact ⟨_, rfl, hwhen s.leadTerms_processOutputs⟩
  | enterRunning anchor => exact ⟨_, rfl, hwhen s.leadTerms_processOutputs⟩
  | insertion => exact ⟨_, rfl, h.of_leadTerms s.leadTerms_insert⟩
  | inflightTimeout => exact ⟨_, rfl, h.of_leadTerms s.leadTerms_timeoutEntries⟩
  | historyAdvance => exact ⟨_, rfl, hwhen s.leadTerms_begun⟩
  | sampleProcessing samples => exact ⟨_, rfl, hwhen (by simp)⟩
  | swapCompletion strip samples => exact ⟨_, rfl, hwhen (by simp)⟩
  | outputProcessing => exact ⟨_, rfl, hwhen s.leadTerms_processOutputs⟩
  | referenceEvent position rolling valid => exact ⟨_, rfl, hwhen (s.leadTerms_takeReference ..)⟩
  | keepalive unit position => exact ⟨_, rfl, hwhen (s.leadTerms_takeReference ..)⟩
  | packingTurn unit => exact ⟨_, rfl, hwhen (s.leadTerms_packingTurn unit)⟩
  | drainEnd unit => exact ⟨_, rfl, hwhen (s.leadTerms_packingTurn unit)⟩
  | heldEndOffer unit => exact ⟨_, rfl, hwhen (s.leadTerms_packingTurn unit)⟩
  | agingEvent => exact ⟨_, rfl, h.ite fun _ => h.restartAging⟩
  | leadLapse group => exact ⟨_, rfl, h.ite fun _ => h.restartAging⟩
  | censusClearing => exact execCensusClearing_leadsKept h
  | clearingComplete => exact ⟨_, rfl, hwhen (s.leadTerms_clearStep 127)⟩
  | refreshWalkTurn => exact execRefreshWalkTurn_leadsKept h
  | meterEvent => exact execMeterEvent_leadsKept h
  | scannerVisit => exact ⟨_, rfl, h.ite fun _ => (h.of_leadTerms (s.leadTerms_visit _)).of_leadTerms rfl⟩
  | inputFramingLost port => exact ⟨_, rfl, hwhen rfl⟩
  | inputFramingGained port => exact ⟨_, rfl, hwhen rfl⟩
  | stripSet source fields => exact ⟨_, rfl, h.whenActing source fun _ => h.actStripSet ..⟩
  | place source fields => exact ⟨_, rfl, hact source (s.leadTerms_actPlace ..)⟩
  | muteGroup source group state => exact ⟨_, rfl, hact source (s.leadTerms_actMuteGroup ..)⟩
  | cue source fields => exact ⟨_, rfl, hact source (s.leadTerms_actCue ..)⟩
  | cueFlush source strip => exact ⟨_, rfl, hact source (s.leadTerms_actCueFlush ..)⟩
  | touch source strip touched => exact ⟨_, rfl, h.whenActing source fun _ => h.actTouch ..⟩
  | fader source strip level => exact ⟨_, rfl, hact source (s.leadTerms_actFader ..)⟩
  | solo source strip state => exact ⟨_, rfl, hact source (s.leadTerms_actSolo ..)⟩
  | soloOn source strip => exact ⟨_, rfl, hact source (s.leadTerms_soloAnnounced _ _ s.leadTerms_learnKey)⟩
  | soloRefresh source strip => exact ⟨_, rfl, hact source (s.leadTerms_soloAnnounced _ _ s.leadTerms_learnKey)⟩
  | soloOff source strip => exact ⟨_, rfl, hact source (s.leadTerms_soloAnnounced _ _ s.leadTerms_removeKey)⟩
  | censusSweep source => exact ⟨_, rfl, h.whenActing source fun _ => h.restartAging⟩
  | groupClaim source group strip => exact ⟨_, rfl, h.whenActing source fun hsource => h.actGroupClaim hsource ..⟩
  | groupRelease source group strip => exact ⟨_, rfl, h.whenActing source fun _ => h.actGroupRelease ..⟩
  | groupDelta source group strip change => exact ⟨_, rfl, h.whenActing source fun _ => h.actGroupDelta ..⟩
  | captureStart source fields => exact ⟨_, rfl, hact source (s.leadTerms_actCaptureStart ..)⟩
  | captureStop source unit => exact ⟨_, rfl, hact source (s.leadTerms_actCaptureStop ..)⟩
  | captureSuspend source unit => exact ⟨_, rfl, hact source (s.leadTerms_actCaptureSuspend ..)⟩
  | captureResume source unit => exact ⟨_, rfl, hact source (s.leadTerms_actCaptureResume ..)⟩
  | captureClear source unit => exact ⟨_, rfl, hact source (s.leadTerms_actCaptureClear ..)⟩
  | outputSet source fields => exact ⟨_, rfl, hact source (s.leadTerms_actOutputSet ..)⟩
  | reportControl source fields => exact ⟨_, rfl, hact source rfl⟩
  | queryStrip source object clear => exact ⟨_, rfl, hact source (s.leadTerms_actQueryStrip ..)⟩
  | queryCues source object clear => exact ⟨_, rfl, hact source (s.leadTerms_actQueryCues ..)⟩
  | queryCensus source object clear => exact ⟨_, rfl, hact source (s.leadTerms_actQueryCensus ..)⟩
  | queryGroup source object clear => exact ⟨_, rfl, hact source (s.leadTerms_actQueryGroup ..)⟩
  | queryCapture source object clear => exact ⟨_, rfl, hact source (s.leadTerms_actQueryCapture ..)⟩
  | queryAnchor source object clear => exact ⟨_, rfl, hact source (s.leadTerms_actQueryAnchor ..)⟩
  | queryCounters source object clear => exact ⟨_, rfl, hact source (s.leadTerms_actQueryCounters ..)⟩
  | nodeReset source => exact ⟨_, rfl, h.whenActing source fun _ => State.leadsKept_of_reset rfl⟩
  | wordClockEdge edge => exact execWordClockEdge_leadsKept h edge

end

/-- Settles O57: the commands that touch no lead, no silent count and no strip's link group, touched or mode leave
`State.leadTerms`. A record that a lead's strip may not lead with is written together with the release of that lead, and a
strip takes a lead, by a touch edge or a hand-on, only where it is a touched member in a mode other than READ. -/
theorem everyStepKeepsLocalLeadsTouched : Obligations.EveryStepKeepsLocalLeadsTouched := fun s t h e =>
  t.leadsKept_iff.mp (step_keeps (fun _ _ h => h.of_leadTerms rfl) (fun _ h c => exec_leadsKept h c)
    (s.leadsKept_iff.mpr h) e)

end Sys2Proof.Machine
end

section
/-! SUPPORT. The part of the state that the captures' invariant reads (R147, R148), and the operations that leave it alone. -/

namespace Sys2Proof.Machine

open Sys2Proof

/-! ### What captures go by -/

/-- What R148 is of: the binding of every strip, and the units. -/
def State.bindings (s : State) : (StripNo → Option UnitNo) × Vector CaptureUnit 4 :=
  (fun n => (s.strip n).binding, s.units)

/-- They stand with each strip's binding and the units. -/
theorem State.bindings_congr {s t : State} (hstrip : ∀ n, (t.strip n).binding = (s.strip n).binding)
    (hunits : t.units = s.units) : t.bindings = s.bindings := by
  simp only [State.bindings, hstrip, hunits]

/-- They stand with the Strip Engine and the units. -/
theorem State.bindings_of_blocks {s t : State} (hengine : t.engine = s.engine) (hunits : t.units = s.units) :
    t.bindings = s.bindings :=
  State.bindings_congr (fun n => by rw [State.strip, hengine]; rfl) hunits

/-- A fold of operations that leave them alone leaves them alone. -/
theorem State.bindings_foldl {α : Type} {f : State → α → State} (hf : ∀ t a, (f t a).bindings = t.bindings)
    (l : List α) (s : State) : (l.foldl f s).bindings = s.bindings := by
  induction l generalizing s with
  | nil => rfl
  | cons a l ih => rw [List.foldl_cons, ih, hf]

section
variable (s : State)

/-! ### The primitive updates -/

/-- A record written back with its binding as it was. -/
theorem State.bindings_setStrip {n : StripNo} {st : Strip} (h : st.binding = (s.strip n).binding) :
    (s.setStrip n st).bindings = s.bindings := by
  refine State.bindings_congr (fun k => ?_) rfl
  rw [State.strip_setStrip]
  split
  · rename_i e
    exact e ▸ h
  · rfl

theorem State.bindings_mapStrips {f : StripNo → Strip → Strip}
    (h : ∀ n, (f n (s.strip n)).binding = (s.strip n).binding) : (s.mapStrips f).bindings = s.bindings :=
  State.bindings_congr (fun n => by rw [State.strip_mapStrips, h]) (s.mapStrips_units f)

theorem State.bindings_setGroup (g : GroupNo) (e : GroupEntry) : (s.setGroup g e).bindings = s.bindings := rfl
theorem State.bindings_latchNode (e : NoticeEvent) : (s.latchNode e).bindings = s.bindings := rfl
theorem State.bindings_latchStrips (f : StripNo → List NoticeEvent) : (s.latchStrips f).bindings = s.bindings :=
  State.bindings_of_blocks (s.latchStrips_engine f) (s.latchStrips_units f)
@[simp] theorem State.bindings_offer (m : OutMsg) : (s.offer m).bindings = s.bindings :=
  State.bindings_of_blocks (s.offer_engine m) (s.offer_units m)
@[simp] theorem State.bindings_announce (b : Body) : (s.announce b).bindings = s.bindings := State.bindings_offer ..
@[simp] theorem State.bindings_refuse (source : Member) (kind object : Byte) (reason : Reason) :
    (s.refuse source kind object reason).bindings = s.bindings := State.bindings_offer ..
@[simp] theorem State.bindings_begun : s.begun.bindings = s.bindings := by
  rw [State.begun_eq]
  rfl

/-! ### Commands by the object they name (R26, R100) -/

theorem State.bindings_stripCommand (source : Member) (kind strip : Byte) {act : StripNo → State → State}
    (hact : ∀ n, (act n s).bindings = s.bindings) : (s.stripCommand source kind strip act).bindings = s.bindings := by
  unfold State.stripCommand
  split
  · exact hact _
  · exact s.bindings_refuse ..

theorem State.bindings_stripsCommand (source : Member) (kind strip : Byte) {act : StripNo → State → State}
    (hact : ∀ n t, (act n t).bindings = t.bindings) : (s.stripsCommand source kind strip act).bindings = s.bindings := by
  unfold State.stripsCommand
  split
  · exact State.bindings_foldl (fun t n => hact n t) _ _
  · exact s.bindings_stripCommand _ _ _ fun n => hact n s

theorem State.bindings_announced (source : Member) (group strip : Byte) {act : GroupNo → Key → State → State}
    (hact : ∀ g k, (act g k s).bindings = s.bindings) : (s.announced source group strip act).bindings = s.bindings := by
  unfold State.announced
  split
  · exact hact ..
  · rfl

theorem State.bindings_soloAnnounced (source : Member) (strip : Byte) {act : Key → State → State}
    (hact : ∀ k, (act k s).bindings = s.bindings) : (s.soloAnnounced source strip act).bindings = s.bindings := by
  unfold State.soloAnnounced
  split
  · exact hact _
  · rfl

/-! ### STRIP SET, MUTE GROUP and PLACE (chapters 2 and 3) -/

/-- R27 to R32: no field of a STRIP SET is the binding. -/
theorem Strip.stripSet_binding (soloActive : Bool) (active : BitVec 16) (f : StripSetFields) (st : Strip) :
    (st.stripSet soloActive active f).binding = st.binding := by
  have hwritten : (st.written f).binding = st.binding := by
    unfold Strip.written Strip.withMode
    split
    · split
      · rw [Strip.changeMode_eq]
        rfl
      · rfl
    · rfl
  unfold Strip.stripSet
  split <;> exact hwritten

@[simp] theorem State.bindings_actStripSet (source : Member) (f : StripSetFields) :
    (s.actStripSet source f).bindings = s.bindings := by
  unfold State.actStripSet
  split
  · exact s.bindings_refuse ..
  · refine s.bindings_stripsCommand _ _ _ fun n t => State.bindings_congr (fun k => ?_) ?_
    · rw [State.strip_applyStripSet]
      split
      · rename_i e
        rw [Strip.stripSet_binding, e]
      · rfl
    · rw [State.applyStripSet_frame]

@[simp] theorem State.bindings_actMuteGroup (source : Member) (group state : Byte) :
    (s.actMuteGroup source group state).bindings = s.bindings := by
  unfold State.actMuteGroup
  split
  · refine State.bindings_mapStrips { s with engine.activeMutes := _ } fun n => ?_
    split <;> rfl
  · exact s.bindings_refuse ..

/-- R38: a placement committed, with the swap it may begin. -/
theorem State.bindings_commit (n : StripNo) (taps : List Tap) : (s.commit n taps).bindings = s.bindings := by
  unfold State.commit
  dsimp only
  split_ifs <;> exact s.bindings_setStrip rfl

@[simp] theorem State.bindings_actPlace (source : Member) (f : PlaceFields) :
    (s.actPlace source f).bindings = s.bindings := by
  have hstaged (n : StripNo) (staged : Option (List Tap)) :
      (s.setStrip n { s.strip n with staged }).bindings = s.bindings := s.bindings_setStrip rfl
  unfold State.actPlace State.takePlace
  split
  · exact s.bindings_refuse ..
  · split
    · dsimp only
      split_ifs
      · exact (State.bindings_commit ..).trans (hstaged ..)
      · exact hstaged ..
      · exact (State.bindings_commit ..).trans (hstaged ..)
    · exact (State.bindings_refuse ..).trans (hstaged ..)

/-! ### Cues, faders and the strips' part of the transport (chapter 6) -/

theorem State.fired_binding (c : Cue) (st : Strip) : (s.fired c st).binding = st.binding := by
  rw [State.fired_ramp]

@[simp] theorem State.bindings_actCue (source : Member) (f : CueFields) : (s.actCue source f).bindings = s.bindings := by
  refine s.bindings_stripCommand _ _ _ fun n => ?_
  have hfired : (s.fireCue n (formCue f)).bindings = s.bindings := s.bindings_setStrip (s.fired_binding ..)
  have hoffered : (s.offerCueTo n (formCue f)).bindings = s.bindings := by
    rw [State.offerCueTo_frame]
    rfl
  unfold State.takeCue
  split_ifs
  · exact hfired
  · exact hfired
  · exact hoffered
  · exact hoffered

@[simp] theorem State.bindings_actCueFlush (source : Member) (strip : Byte) :
    (s.actCueFlush source strip).bindings = s.bindings := s.bindings_stripsCommand _ _ _ fun _ _ => rfl

theorem State.bindings_rolled : s.rolled.bindings = s.bindings :=
  State.bindings_congr (fun n => by rw [State.strip_rolled]; rfl) (by rw [State.rolled_frame])

theorem State.bindings_stripsPark : s.stripsPark.bindings = s.bindings :=
  s.bindings_mapStrips fun _ => by rw [State.parkStrip_eq]

theorem State.bindings_fireCues (q : Position) : (s.fireCues q).bindings = s.bindings := by
  refine State.bindings_congr (fun n => ?_) (by simp only [State.fireCues, State.mapStrips])
  rw [State.strip_fireCues, State.firedLast]
  split
  · exact s.fired_binding ..
  · rfl

/-- R33: a delta moves link offsets. -/
theorem State.bindings_applyDelta (g : GroupNo) (change : Int) : (s.applyDelta g change).bindings = s.bindings := by
  rw [State.applyDelta, State.bindings_latchStrips]
  refine s.bindings_mapStrips fun n => ?_
  unfold State.withDelta
  split_ifs <;> rfl

@[simp] theorem State.bindings_actFader (source : Member) (strip : Byte) (level : BitVec 16) :
    (s.actFader source strip level).bindings = s.bindings := by
  refine s.bindings_stripCommand _ _ _ fun n => ?_
  have hhanded (t : State) (change : Int) : (t.handMove n change).bindings = t.bindings := by
    unfold State.handMove
    split
    · split
      · exact (State.bindings_announce ..).trans (t.bindings_applyDelta ..)
      · rfl
    · rfl
  unfold State.moveFader
  split
  · rfl
  · rename_i hmoves
    rw [hhanded, State.setStripEffective_live _ _ hmoves]
    exact s.bindings_setStrip rfl

/-! ### Announcements of other members (chapter 8) -/

theorem State.bindings_handOn (g : GroupNo) : (s.handOn g).bindings = s.bindings := by
  rw [State.handOn_eq]
  rfl

@[simp] theorem State.bindings_actGroupClaim (source : Member) (group strip : Byte) :
    (s.actGroupClaim source group strip).bindings = s.bindings := by
  refine s.bindings_announced _ _ _ fun g k => ?_
  unfold State.takeClaim
  split
  · rfl
  · split_ifs <;> rfl

@[simp] theorem State.bindings_actGroupRelease (source : Member) (group strip : Byte) :
    (s.actGroupRelease source group strip).bindings = s.bindings := by
  refine s.bindings_announced _ _ _ fun g k => ?_
  unfold State.takeRelease
  split
  · exact State.bindings_handOn ..
  · rfl

@[simp] theorem State.bindings_actGroupDelta (source : Member) (group strip : Byte) (change : BitVec 16) :
    (s.actGroupDelta source group strip change).bindings = s.bindings := by
  refine s.bindings_announced _ _ _ fun g k => ?_
  unfold State.takeDelta
  split
  · rw [State.bindings_setGroup, State.bindings_applyDelta]
  · rfl

/-! ### Solo and the Census (chapter 7) -/

theorem State.bindings_judgeSolo : s.judgeSolo.bindings = s.bindings := by
  unfold State.judgeSolo
  split
  · rfl
  · exact State.bindings_mapStrips { s with census.soloActive := s.soloWanted } fun _ => rfl

@[simp] theorem State.bindings_actSolo (source : Member) (strip state : Byte) :
    (s.actSolo source strip state).bindings = s.bindings := by
  refine s.bindings_stripsCommand _ _ _ fun n t => ?_
  have hjudged (x : State) : (x.soloChanged n).bindings = x.bindings := by
    unfold State.soloChanged
    split
    · exact x.bindings_setStrip rfl
    · exact x.bindings_judgeSolo
  have hsoloed (soloed : Bool) : (t.setStrip n { t.strip n with soloed }).bindings = t.bindings :=
    t.bindings_setStrip rfl
  unfold State.soloStrip State.unsoloStrip
  split_ifs
  · rfl
  · exact (hjudged _).trans ((State.bindings_announce ..).trans (hsoloed true))
  · exact (hjudged _).trans ((State.bindings_announce ..).trans (hsoloed false))
  · rfl

theorem State.bindings_learnKey (k : Key) : (s.learnKey k).bindings = s.bindings := by
  have hlearn (t : State) (i : Fin 3) : (t.learnIn i k).bindings = t.bindings := by
    unfold State.learnIn
    dsimp only
    split <;> rfl
  rw [State.learnKey, State.bindings_judgeSolo, hlearn, hlearn]

theorem State.bindings_removeKey (k : Key) : (s.removeKey k).bindings = s.bindings := State.bindings_judgeSolo _

theorem State.bindings_rotate : s.rotate.bindings = s.bindings := State.bindings_judgeSolo _

/-- R125 to R127, R143: an aging event reaches the Census and the Group Table. -/
@[simp] theorem State.bindings_restartAging : s.restartAging.bindings = s.bindings := by
  have hrotated (t : State) : t.rotateOrHold.bindings = t.bindings := by
    unfold State.rotateOrHold
    split
    · rfl
    · exact t.bindings_rotate
  have haged (t : State) (g : GroupNo) : (t.ageGroup g).bindings = t.bindings := by
    rw [State.ageGroup_frame]
    rfl
  have hmarked (t : State) : t.markSoloed.bindings = t.bindings :=
    State.bindings_of_blocks (by rw [State.markSoloed_frame]) (by rw [State.markSoloed_frame])
  rw [State.restartAging, State.agingEvent, hmarked, State.ageGroups, State.bindings_foldl haged, hrotated]
  rfl

theorem State.bindings_clearStep (i : Fin 128) : (s.clearStep i).bindings = s.bindings := by
  unfold State.clearStep State.clearingDone
  dsimp only
  split_ifs
  · rfl
  · exact State.bindings_rotate _
  · rfl

/-- R131, R144: the refresh walk clears a mark and may restate a claim. -/
theorem State.bindings_takeMark : s.takeMark.bindings = s.bindings := by
  have hclaimed (t : State) (g : GroupNo) : (t.claimRefresh g).bindings = t.bindings := by
    unfold State.claimRefresh
    split
    · split
      · exact State.bindings_announce ..
      · rfl
    · rfl
  unfold State.takeMark
  split
  · rw [State.bindings_announce]
    rfl
  · split
    · rw [hclaimed, State.bindings_setGroup]
    · rfl

/-! ### Messages, periods, emission, samples and outputs (chapters 1, 3, 4, 5 and 11) -/

theorem State.bindings_loseEntries (n : Nat) : (s.loseEntries n).bindings = s.bindings := by
  induction n generalizing s with
  | zero => rfl
  | succ n ih => exact ih _

theorem State.bindings_ownReturn (kind : Byte) : (s.ownReturn kind).bindings = s.bindings := by
  unfold State.ownReturn
  split
  · exact State.bindings_loseEntries ..
  · split <;> rfl

theorem State.bindings_insert : s.insert.bindings = s.bindings := by
  obtain ⟨_, _, _, h, -⟩ := s.insert_cases
  rw [h]
  rfl

/-- R18, R19: an emission hands its records to the anchors. -/
theorem State.bindings_emit : s.emit.bindings = s.bindings := by
  calc s.emit.bindings = s.insert.handOffs.bindings := rfl
    _ = s.insert.bindings := by
      unfold State.handOffs
      split
      · exact State.bindings_of_blocks (State.latchAnchors_engine ..) (State.latchAnchors_units ..)
      · rfl
    _ = s.bindings := s.bindings_insert

theorem State.bindings_processOutputs : s.processOutputs.bindings = s.bindings := by
  rw [State.processOutputs_frame]
  rfl

/-- R54: a processed strip moves its ramp and peak, and its placement where a swap completes. -/
theorem State.bindings_processSamples (samples : List Sample) : (s.processSamples samples).bindings = s.bindings := by
  have hprocessed (x : Int) (st : Strip) : (s.processed x st).binding = st.binding := by
    unfold State.processed
    dsimp only
    split <;> rfl
  exact State.bindings_congr (fun n => by rw [State.strip_processSamples, hprocessed])
    (by rw [State.processSamples_eq])

theorem State.bindings_closePeriod : s.closePeriod.bindings = s.bindings := by
  rw [State.closePeriod_eq]
  rfl

theorem State.bindings_lockEdge : s.lockEdge.bindings = s.bindings := by
  unfold State.lockEdge
  split <;> rfl

theorem State.bindings_countGood : s.countGood.bindings = s.bindings := by
  unfold State.countGood
  split <;> rfl

/-- R169: a profile sets every strip's glide. -/
theorem State.bindings_profileTaken (l : ProfileLoad) : (s.profileTaken l).bindings = s.bindings := by
  have hglide := s.bindings_mapStrips (f := fun _ st => { st with glide := l.profile.glide }) fun _ => rfl
  rw [State.profileTaken, State.bindings_foldl State.bindings_latchNode]
  generalize s.mapStrips _ = x at hglide ⊢
  exact hglide

@[simp] theorem State.bindings_actOutputSet (source : Member) (f : OutputSetFields) :
    (s.actOutputSet source f).bindings = s.bindings := by
  unfold State.actOutputSet
  split
  · rfl
  · split
    · exact s.bindings_refuse ..
    · split
      · rfl
      · exact s.bindings_refuse ..

/-! ### Reports and queries (chapters 5 and 10) -/

theorem State.bindings_meterReports : s.meterReports.bindings = s.bindings := by
  have hstrip (t : State) (b : Nat) : (t.stripMeter b).bindings = t.bindings := by
    unfold State.stripMeter
    split
    · refine (State.bindings_mapStrips _ fun n => ?_).trans (t.bindings_offer _)
      split <;> rfl
    · rfl
  have hanchor (t : State) (b : Nat) : (t.anchorMeter b).bindings = t.bindings := by
    unfold State.anchorMeter
    split
    · exact State.bindings_offer ..
    · rfl
  rw [State.meterReports, State.bindings_foldl hanchor, State.bindings_foldl hstrip]

theorem State.bindings_visit (src : SourceNo) : (s.visit src).bindings = s.bindings := by
  unfold State.visit
  split
  · exact State.bindings_offer ..
  · rfl

/-- R98: an answer is queued or refused, and may clear the node counters. -/
theorem State.bindings_answer (source : Member) (item : QueryItem) (object : Byte) (shares : List ReplyShare)
    {after : State → State} (hafter : ∀ t, (after t).bindings = t.bindings) :
    (s.answer source item object shares after).bindings = s.bindings := by
  unfold State.answer
  split
  · exact s.bindings_refuse ..
  · rw [hafter, State.bindings_foldl fun t _ => State.bindings_offer ..]

/-- R98: a query of any item, its object named or not. -/
@[simp] theorem State.bindings_actQuery (source : Member) (item object clear : Byte) :
    (s.actQuery source item object clear).bindings = s.bindings := by
  have hanswered (i : QueryItem) (shares : List ReplyShare) :
      (s.answer source i object shares id).bindings = s.bindings := s.bindings_answer _ _ _ _ fun _ => rfl
  have hrefused : (s.refuseQuery source object).bindings = s.bindings := s.bindings_refuse ..
  unfold State.actQuery
  split
  case h_3 => exact hanswered ..
  case h_7 =>
    refine s.bindings_answer _ _ _ _ fun t => ?_
    split <;> rfl
  case h_8 => exact hrefused
  case h_1 => unfold State.actQueryStrip; split; exacts [hanswered .., hrefused]
  case h_2 => unfold State.actQueryCues; split; exacts [hanswered .., hrefused]
  case h_4 => unfold State.actQueryGroup; split; exacts [hanswered .., hrefused]
  case h_5 => unfold State.actQueryCapture; split; exacts [hanswered .., hrefused]
  case h_6 => unfold State.actQueryAnchor; split; exacts [hanswered .., hrefused]

end

end Sys2Proof.Machine
end

section
/-! SUPPORT. What the operations of a capture unit make of the node's state (R148, R149, R151, R155, R159), as the statements of
chapter 9 write it. -/

namespace Sys2Proof.Machine

open Sys2Proof

section
variable {u : UnitNo} {n : StripNo} {c : CaptureUnit} {s : State}

/-! ### Bindings written and released (R148) -/

/-- R148: unit `u`, with record `c`, bound to strip `n`. -/
def State.boundTo (u : UnitNo) (n : StripNo) (c : CaptureUnit) (s : State) : State :=
  (s.setUnit u c).setStrip n { s.strip n with binding := some u }

theorem State.captureUnit_boundTo : (s.boundTo u n c).captureUnit u = c := State.captureUnit_setUnit_same ..

/-- R151: the level a unit records is that of the strip it is bound to. -/
theorem State.effective_boundTo : ((s.boundTo u n c).strip n).effective = (s.strip n).effective := by
  rw [State.boundTo, State.strip_setStrip_same]
  rfl

theorem State.boundTo_setUnit (d : CaptureUnit) : (s.boundTo u n c).setUnit u d = s.boundTo u n d := by
  simp [State.boundTo, State.setUnit, State.setStrip]

/-- A strip bound and released is as it was. -/
theorem State.boundTo_released (hfree : (s.strip n).binding = none) :
    (s.boundTo u n c).setStrip n { (s.boundTo u n c).strip n with binding := none } = s.setUnit u c := by
  have hstrip : { (s.boundTo u n c).strip n with binding := none } = (s.setUnit u c).strip n := by
    rw [State.boundTo, State.strip_setStrip_same, ← hfree]
    rfl
  rw [hstrip, State.boundTo, State.setStrip_setStrip, State.setStrip_self]

theorem State.releaseBinding_of_bound (hbound : c.bound = some n) : (s.setUnit u c).releaseBinding u =
    (s.setUnit u { c with bound := none }).setStrip n { s.strip n with binding := none } := by
  unfold State.releaseBinding
  simp only [State.captureUnit_setUnit_same, hbound, State.setUnit_setUnit, State.strip_setUnit]

/-! ### Arming (R149, R150) -/

/-- R149: a unit armed and bound, or entered into WRITING from there. -/
def CaptureUnit.starting (state : UnitState) (settings : CaptureSettings) (c : CaptureUnit) : CaptureUnit :=
  { c.prepared settings with state, bound := some settings.strip }

/-- R149, R150: a unit is armed and bound, and enters WRITING at once where the transport rolls at or above punch-in. -/
theorem State.startArmed_eq (u : UnitNo) (settings : CaptureSettings) (s : State) : s.startArmed u settings =
    if s.clock.rolling && decide (settings.punchIn ≤ s.clock.position) then
      (s.boundTo u settings.strip ((s.captureUnit u).starting .armed settings)).enterWriting u s.clock.position
    else s.boundTo u settings.strip ((s.captureUnit u).starting .armed settings) := rfl

/-! ### Endings and samplings (R151, R155) -/

/-- R155: an ending of a bound unit. -/
theorem State.finish_of_bound (hbound : (s.captureUnit u).bound = some n) (q : Position) (flags condition : Byte) :
    s.finish u q flags condition =
      (s.setUnit u ((s.captureUnit u).finished q (s.strip n).effective flags condition s.clock.period)).setStrip n
        { s.strip n with binding := none } := by
  unfold State.finish
  dsimp only
  rw [State.releaseBinding_of_bound (n := n) (by dsimp only; rw [CaptureUnit.formRecord_eq]; exact hbound),
    State.boundLevel_of_bound s hbound]
  rfl

/-- R155: a sampling at or above punch-out. -/
theorem State.sample_of_out (hbound : (s.captureUnit u).bound = some n) {q : Position}
    (hout : (s.captureUnit u).settings.punchOut ≤ q) : s.sample u q =
      (s.setUnit u ((s.captureUnit u).sampled q (s.strip n).effective s.clock.period)).setStrip n
        { s.strip n with binding := none } := by
  have hsample : s.sample u q =
      (s.setUnit u (s.captureUnit u).counted).finish u q ((s.captureUnit u).lateFlag q) condComplete := if_pos hout
  rw [hsample, State.finish_of_bound (n := n) (by rwa [State.captureUnit_setUnit_same]), State.captureUnit_setUnit_same,
    CaptureUnit.finished_counted, State.setUnit_setUnit, CaptureUnit.sampled, if_pos hout]
  rfl

/-- R151: a sampling below punch-out. -/
theorem State.sample_of_below (hbound : (s.captureUnit u).bound = some n) {q : Position}
    (hbelow : q < (s.captureUnit u).settings.punchOut) :
    s.sample u q = s.setUnit u ((s.captureUnit u).sampled q (s.strip n).effective s.clock.period) := by
  have hin : ¬(s.captureUnit u).settings.punchOut ≤ q := by bv_omega
  have hsample : s.sample u q =
      if (s.captureUnit u).counted.recordDue q (s.boundLevel (s.captureUnit u)) then
        s.setUnit u ((s.captureUnit u).counted.formRecord q (s.boundLevel (s.captureUnit u))
          ((s.captureUnit u).lateFlag q) s.clock.period)
      else s.setUnit u (s.captureUnit u).counted := if_neg hin
  rw [hsample, CaptureUnit.formRecord_counted, State.boundLevel_of_bound s hbound, CaptureUnit.sampled, if_neg hin]
  split <;> rfl

end

/-! ### The end of DRAINING (R159) -/

/-- R159: `t` is what the end of DRAINING of unit `u`, with record `d`, leaves of `x`, whose queue and notices are those of
`s`. -/
structure State.DrainEnded (s x t : State) (u : UnitNo) (d : CaptureUnit) : Prop where
  frame : t = { x with units := t.units, message := t.message }
  others : ∀ v : UnitNo, v ≠ u → t.captureUnit v = x.captureUnit v
  unit : t.captureUnit u = { d with
    endRecord := some d.ending
    state := if d.conditions &&& d.settings.noticeMask = 0#8 then .idle
      else if s.reports.inhibited then .ended
      else if s.message.outbound.length ≤ 30 then .idle
      else .draining }
  message : t.message = if d.conditions &&& d.settings.noticeMask ≠ 0#8 ∧ s.reports.inhibited = false ∧
      s.message.outbound.length ≤ 30 then (s.offer (d.endMessage u d.ending)).message
    else s.message

theorem State.endDrain_drainEnded {u : UnitNo} {d : CaptureUnit} {s x : State} (hunit : x.captureUnit u = d)
    (hmessage : x.message = s.message) (hreports : x.reports = s.reports) : s.DrainEnded x (x.endDrain u) u d := by
  subst hunit
  have hunits := congrArg State.units (x.endDrain_eq u)
  refine ⟨by rw [State.endDrain_eq], fun v hv => ?_, ?_, ?_⟩
  · rw [State.captureUnit, hunits]
    exact (x.captureUnit_setUnit u v _).trans (if_neg hv.symm)
  · rw [State.endDrain_unit, hmessage, hreports]
  · rw [← State.offer_message_congr _ hmessage, ← hmessage, ← hreports]
    exact congrArg State.message (x.endDrain_eq u)

end Sys2Proof.Machine
end

section
/-! SUPPORT. What each operation of a capture unit leaves of R147 and R148: the unit sound, and strips and units bound one to
one. -/

namespace Sys2Proof.Machine

open Sys2Proof

/-! ### One unit (R147, R151, R153) -/

section
variable {c : CaptureUnit}

/-- R147: a unit in WRITING or SUSPENDED is sound while it is bound and its buffer and its count are within bounds. -/
theorem CaptureUnit.sound_of_captures (hstate : c.state = .writing ∨ c.state = .suspended) (hbound : c.bound.isSome = true)
    (hbuffer : c.buffer.length ≤ 16) (hcount : c.keepalive ≤ 4800) : c.Sound := by
  rcases hstate with hstate | hstate <;> simp [CaptureUnit.Sound, hstate, hbound, hbuffer, hcount, UnitState.isBound]

/-- R147: a unit in DRAINING is sound while it is free and its buffer and its count are within bounds. -/
theorem CaptureUnit.sound_of_draining (hstate : c.state = .draining) (hbound : c.bound = none)
    (hbuffer : c.buffer.length ≤ 16) (hcount : c.keepalive ≤ 4800) : c.Sound := by
  simp [CaptureUnit.Sound, hstate, hbound, hbuffer, hcount, UnitState.isBound]

/-- R147: a free unit with an empty buffer is sound where ENDED has its end record. -/
theorem CaptureUnit.sound_of_free (hstate : c.state.isBound = false) (hbound : c.bound = none) (hbuffer : c.buffer = [])
    (hcount : c.keepalive ≤ 4800) (hend : c.state = .ended → c.endRecord.isSome = true) : c.Sound :=
  ⟨by rw [hbound, hstate]; rfl, by simp [hbuffer], hcount, fun _ => hbuffer, hend⟩

/-- R147: a unit in a state that is not bound names no strip. -/
theorem CaptureUnit.Sound.bound_eq_none (h : c.Sound) (hstate : c.state.isBound = false) : c.bound = none := by
  obtain ⟨hbound, -⟩ := h
  rwa [hstate, Option.isSome_eq_false_iff, Option.isNone_iff_eq_none] at hbound

/-- R147: a unit in a bound state names a strip. -/
theorem CaptureUnit.Sound.bound_isSome (h : c.Sound) (hstate : c.state.isBound = true) : c.bound.isSome = true := by
  obtain ⟨hbound, -⟩ := h
  rw [hbound, hstate]

theorem CaptureUnit.Sound.buffer_le (h : c.Sound) : c.buffer.length ≤ 16 := by
  obtain ⟨-, hbuffer, -⟩ := h
  exact hbuffer

theorem CaptureUnit.Sound.keepalive_le (h : c.Sound) : c.keepalive ≤ 4800 := by
  obtain ⟨-, -, hcount, -⟩ := h
  exact hcount

theorem CaptureUnit.Sound.buffer_eq_nil (h : c.Sound) (hstate : c.state = .idle ∨ c.state = .armed ∨ c.state = .ended) :
    c.buffer = [] := by
  obtain ⟨-, -, -, hempty, -⟩ := h
  exact hempty hstate

/-- R153: a record joins the buffer only where the buffer has room. -/
theorem CaptureUnit.formRecord_buffer_le (h : c.buffer.length ≤ 16) (q : Position) (level : Int) (flags : Byte)
    (period : Nat) : (c.formRecord q level flags period).buffer.length ≤ 16 := by
  rw [CaptureUnit.formRecord_eq]
  dsimp only
  split
  · rw [List.length_append, List.length_singleton]
    omega
  · exact h

/-- R151: a record formed in WRITING. -/
theorem CaptureUnit.Sound.formRecord (h : c.Sound) (hstate : c.state = .writing) (q : Position) (level : Int) (flags : Byte)
    (period : Nat) : (c.formRecord q level flags period).Sound := by
  have hbuffer := CaptureUnit.formRecord_buffer_le h.buffer_le q level flags period
  rw [CaptureUnit.formRecord_eq] at hbuffer ⊢
  exact CaptureUnit.sound_of_captures (.inl hstate) (h.bound_isSome (by rw [hstate]; rfl)) hbuffer (Nat.zero_le _)

/-- R151: a sampling that forms no record. -/
theorem CaptureUnit.Sound.counted (h : c.Sound) (hstate : c.state = .writing) : c.counted.Sound :=
  CaptureUnit.sound_of_captures (.inl hstate) (h.bound_isSome (by rw [hstate]; rfl)) h.buffer_le (Nat.min_le_left ..)

/-- R150, R157: a bound unit that enters WRITING or SUSPENDED, whatever its marks are then. -/
theorem CaptureUnit.Sound.enter (h : c.Sound) (hbound : c.state.isBound = true) {state : UnitState}
    (hstate : state = .writing ∨ state = .suspended) (marks : Byte) : ({ c with state, marks } : CaptureUnit).Sound :=
  CaptureUnit.sound_of_captures hstate (h.bound_isSome hbound) h.buffer_le h.keepalive_le

/-- R154: the records sent leave the head of the buffer. -/
theorem CaptureUnit.Sound.drop (h : c.Sound) (k sent : Nat) :
    ({ c with buffer := c.buffer.drop k, recordsSent := sent } : CaptureUnit).Sound := by
  obtain ⟨hbound, hbuffer, hcount, hempty, hend⟩ := h
  refine ⟨hbound, ?_, hcount, fun hstate => ?_, hend⟩
  · rw [List.length_drop]
    omega
  · rw [hempty hstate, List.drop_nil]

/-- R158, R159: a unit in ENDED that returns to IDLE. -/
theorem CaptureUnit.Sound.endedToIdle (h : c.Sound) (hstate : c.state = .ended) (e : Option EndRecord) :
    ({ c with state := .idle, endRecord := e } : CaptureUnit).Sound :=
  CaptureUnit.sound_of_free rfl (h.bound_eq_none (by rw [hstate]; rfl)) (h.buffer_eq_nil (.inr (.inr hstate)))
    h.keepalive_le nofun

end

/-! ### All units and their strips (R148) -/

/-- R168, R171: a reset leaves every unit and every strip free. -/
theorem State.capturesSound_of_reset {s : State} {glide : Nat} (hunits : s.units = unitsReset)
    (hengine : s.engine = StripEngine.reset glide) : s.CapturesSound := by
  have hunit (u : UnitNo) : s.captureUnit u = CaptureUnit.reset := by simp [State.captureUnit, hunits, unitsReset]
  have hstrip (n : StripNo) : s.strip n = Strip.reset glide := by simp [State.strip, hengine, StripEngine.reset]
  refine ⟨fun u => ?_, fun u n => ?_⟩
  · rw [hunit]
    decide
  · simp [hunit, hstrip, CaptureUnit.reset, Strip.reset]

section
variable {s : State} (h : s.CapturesSound)
include h

theorem State.CapturesSound.unit (u : UnitNo) : (s.captureUnit u).Sound := by
  obtain ⟨hunit, -⟩ := h
  exact hunit u

theorem State.CapturesSound.bound_iff (u : UnitNo) (n : StripNo) :
    (s.captureUnit u).bound = some n ↔ (s.strip n).binding = some u := by
  obtain ⟨-, hbound⟩ := h
  exact hbound u n

theorem State.CapturesSound.of_bindings {t : State} (e : t.bindings = s.bindings) : t.CapturesSound := by
  simp only [State.bindings, Prod.mk.injEq] at e
  obtain ⟨hstrips, hunits⟩ := e
  have hunit (u : UnitNo) : t.captureUnit u = s.captureUnit u := by rw [State.captureUnit, hunits]; rfl
  have hstrip (n : StripNo) : (t.strip n).binding = (s.strip n).binding := congrFun hstrips n
  exact ⟨fun u => hunit u ▸ h.unit u, fun u n => by rw [hunit, hstrip, h.bound_iff]⟩

/-- A step under a condition, and otherwise nothing. -/
theorem State.CapturesSound.ite {t : State} {p : Prop} [Decidable p] (ht : p → t.CapturesSound) :
    (if p then t else s).CapturesSound := by
  split
  · exact ht ‹_›
  · exact h

omit h in
/-- A fold of steps that keep the captures sound. -/
theorem State.CapturesSound.foldl {α : Type} {f : State → α → State}
    (hf : ∀ t a, t.CapturesSound → (f t a).CapturesSound) (l : List α) {s : State} (h : s.CapturesSound) :
    (l.foldl f s).CapturesSound := by
  induction l generalizing s with
  | nil => exact h
  | cons a l ih => exact ih (hf s a h)

/-- A unit written back with its binding as it was. -/
theorem State.CapturesSound.setUnit {u : UnitNo} {c : CaptureUnit} (hc : c.Sound) (hbound : c.bound = (s.captureUnit u).bound) :
    (s.setUnit u c).CapturesSound := by
  refine ⟨fun v => ?_, fun v n => ?_⟩ <;> rw [State.captureUnit_setUnit]
  · split
    · exact hc
    · exact h.unit v
  · rw [State.strip_setUnit, ← h.bound_iff]
    split
    · rename_i e
      rw [hbound, e]
    · rfl

/-- R148: a unit written with the binding it had is released together with its strip. -/
theorem State.CapturesSound.release {u : UnitNo} {c : CaptureUnit} (hc : ({ c with bound := none } : CaptureUnit).Sound)
    (hbound : c.bound = (s.captureUnit u).bound) : ((s.setUnit u c).releaseBinding u).CapturesSound := by
  refine ⟨fun v => ?_, fun v n => ?_⟩
  all_goals rw [State.captureUnit_releaseBinding, State.captureUnit_setUnit_same, State.captureUnit_setUnit]
  · split
    · exact hc
    · exact h.unit v
  · rw [State.strip_releaseBinding, State.captureUnit_setUnit_same, State.strip_setUnit]
    have hiff := h.bound_iff (n := n)
    by_cases hv : u = v
    · subst hv
      by_cases hn : c.bound = some n
      · simp [hn]
      · simp [hn, ← hiff, ← hbound]
    · by_cases hn : c.bound = some n
      · have hu := (hiff u).mp (hbound ▸ hn)
        simp [hv, hn, hiff, hu]
      · simp [hv, hn, hiff]

/-- R148, R149: a free unit is bound to a free strip. -/
theorem State.CapturesSound.bind {u : UnitNo} {n : StripNo} {c : CaptureUnit} (hunit : (s.captureUnit u).bound = none)
    (hstrip : (s.strip n).binding = none) (hc : c.Sound) (hbound : c.bound = some n) :
    (s.boundTo u n c).CapturesSound := by
  unfold State.boundTo
  refine ⟨fun v => ?_, fun v k => ?_⟩
  all_goals rw [State.captureUnit_setStrip, State.captureUnit_setUnit]
  · split
    · exact hc
    · exact h.unit v
  · rw [State.strip_setStrip, State.strip_setUnit]
    have hiff := h.bound_iff (n := k)
    by_cases hv : u = v
    · subst hv
      by_cases hk : n = k
      · simp [hk, hbound]
      · simp [hk, hbound, ← hiff, hunit]
    · by_cases hk : n = k
      · subst hk
        simp [hv, hiff, hstrip]
      · simp [hv, hk, hiff]

/-! ### Endings, samplings and the transport (R150, R151, R155) -/

/-- R155, R156: an ending with a FINAL record releases the unit. -/
theorem State.CapturesSound.finish (u : UnitNo) (q : Position) (flags condition : Byte) :
    (s.finish u q flags condition).CapturesSound := by
  refine h.release (c := { (s.captureUnit u).formRecord .. with conditions := _, state := _ }) ?_ ?_
  · refine CaptureUnit.sound_of_draining rfl rfl (CaptureUnit.formRecord_buffer_le (h.unit u).buffer_le ..) ?_
    rw [CaptureUnit.formRecord_eq]
    exact Nat.zero_le _
  · rw [CaptureUnit.formRecord_eq]

theorem State.CapturesSound.sample {u : UnitNo} (hstate : (s.captureUnit u).state = .writing) (q : Position) :
    (s.sample u q).CapturesSound := by
  have hunit := h.unit u
  have hcounted : (s.setUnit u (s.captureUnit u).counted).CapturesSound := h.setUnit (hunit.counted hstate) rfl
  unfold State.sample
  dsimp only
  split_ifs
  · exact hcounted.finish u q _ _
  · refine h.setUnit ((hunit.counted hstate).formRecord hstate ..) ?_
    rw [CaptureUnit.formRecord_eq]
  · exact hcounted

/-- R150: a bound unit enters WRITING. -/
theorem State.CapturesSound.enterWriting {u : UnitNo} (hstate : (s.captureUnit u).state = .armed) (q : Position) :
    (s.enterWriting u q).CapturesSound := by
  have hwriting : (s.setUnit u { s.captureUnit u with state := .writing }).CapturesSound :=
    h.setUnit ((h.unit u).enter (by rw [hstate]; rfl) (.inl rfl) _) rfl
  exact hwriting.sample (by rw [State.captureUnit_setUnit_same]) q

theorem State.CapturesSound.unitPosition (q : Position) (u : UnitNo) : (s.unitPosition q u).CapturesSound := by
  unfold State.unitPosition
  split
  case h_1 hstate => exact h.ite fun _ => h.enterWriting hstate q
  case h_2 hstate => exact h.sample hstate q
  case h_3 => exact h.ite fun _ => h.finish u q _ _
  all_goals exact h

theorem State.CapturesSound.unitsEnd (q : Position) (condition : Byte) : (s.unitsEnd q condition).CapturesSound := by
  refine h.foldl (fun t u ht => ?_) _
  unfold State.unitEnd
  split
  case h_1 | h_2 => exact ht.finish u q _ _
  all_goals exact ht

theorem State.CapturesSound.unitsPosition (q : Position) : (s.unitsPosition q).CapturesSound :=
  h.foldl (fun _ u ht => ht.unitPosition q u) _

/-- R105, R155: the change to parked, in either order. -/
theorem State.CapturesSound.parkIn (unitsFirst : Bool) : (s.parkIn unitsFirst).CapturesSound := by
  unfold State.parkIn
  split
  · exact (h.unitsEnd _ _).of_bindings (State.bindings_stripsPark _)
  · exact (h.of_bindings s.bindings_stripsPark).unitsEnd _ _

/-- R111, R150, R151: a position event that follows on, in either order. -/
theorem State.CapturesSound.positionIn (unitsFirst : Bool) (q : Position) : (s.positionIn unitsFirst q).CapturesSound := by
  unfold State.positionIn
  split
  · exact (h.unitsPosition q).of_bindings (State.bindings_fireCues _ q)
  · exact (h.of_bindings (s.bindings_fireCues q)).unitsPosition q

/-- R172: the transport change and the position event. -/
theorem State.CapturesSound.moved (parkUnitsFirst cueUnitsFirst : Bool) (q : Position) (reading : Bool) :
    (s.moved parkUnitsFirst cueUnitsFirst q reading).CapturesSound := by
  cases reading with
  | false =>
    cases hrolling : s.clock.rolling with
    | false => rwa [State.moved_rests _ _ _ hrolling]
    | true =>
      rw [State.moved, State.transportChange, hrolling]
      exact h.parkIn parkUnitsFirst
  | true =>
    have hrolled : s.rolled.CapturesSound := h.of_bindings s.bindings_rolled
    have hemptied : s.rolled.emptyCues.CapturesSound := hrolled.of_bindings rfl
    rw [State.moved, State.transportChange_rolling, State.positionEvent, if_pos rfl]
    split
    · exact hemptied.unitsEnd _ _
    · exact hrolled.positionIn cueUnitsFirst q

theorem State.CapturesSound.takeReference (position : Position) (rolling valid : Bool) :
    (s.takeReference position rolling valid).CapturesSound := by
  have hfaulted : (if valid then s else s.latchNode .positionFault).CapturesSound := by
    split
    · exact h
    · exact h.of_bindings rfl
  exact (hfaulted.moved ..).of_bindings rfl

/-! ### Draining and packing (R154, R159) -/

/-- R159: the end of DRAINING leaves the unit free with its end record, in one of three states. -/
theorem State.CapturesSound.endDrain {u : UnitNo} (hstate : (s.captureUnit u).state = .draining)
    (hbuffer : (s.captureUnit u).buffer = []) : (s.endDrain u).CapturesSound := by
  have hunit := h.unit u
  have hfree := hunit.bound_eq_none (by rw [hstate]; rfl)
  have hended : ((s.endDrain u).captureUnit u).Sound := by
    rw [State.endDrain_unit]
    refine CaptureUnit.sound_of_free ?_ hfree hbuffer hunit.keepalive_le fun _ => rfl
    dsimp only
    split_ifs <;> rfl
  have hbound : ((s.endDrain u).captureUnit u).bound = (s.captureUnit u).bound := by rw [State.endDrain_unit]
  have hset := h.setUnit hended hbound
  rw [State.endDrain_eq]
  exact hset.of_bindings rfl

theorem State.CapturesSound.pack (u : UnitNo) : (s.pack u).CapturesSound :=
  (h.setUnit ((h.unit u).drop ..) rfl).of_bindings (State.bindings_offer ..)

theorem State.CapturesSound.offerHeldEnd {u : UnitNo} (hstate : (s.captureUnit u).state = .ended) :
    (s.offerHeldEnd u).CapturesSound := by
  unfold State.offerHeldEnd
  dsimp only
  refine h.ite fun _ => ?_
  split
  · exact (h.setUnit ((h.unit u).endedToIdle hstate _) rfl).of_bindings (State.bindings_offer ..)
  · exact h

theorem State.CapturesSound.packingTurn (u : UnitNo) : (s.packingTurn u).CapturesSound := by
  have hturned : ({ s with clock.taken.turns := s.clock.taken.turns.set u true } : State).CapturesSound := h.of_bindings rfl
  unfold State.packingTurn State.turnWork
  generalize ({ s with clock.taken.turns := _ } : State) = t at hturned ⊢
  split
  · exact hturned.offerHeldEnd ‹_›
  · have hpacked : (if t.packDue (t.captureUnit u) then t.pack u else t).CapturesSound := hturned.ite fun _ => hturned.pack u
    dsimp only
    refine hpacked.ite fun hdrained => ?_
    simp only [CaptureUnit.drained, Bool.and_eq_true, beq_iff_eq, List.isEmpty_iff] at hdrained
    exact hpacked.endDrain hdrained.1 hdrained.2

/-! ### The commands (R149, R156 to R158) -/

/-- R149: a capture that ends at once is never bound. -/
theorem State.CapturesSound.startEnded {u : UnitNo} (hstate : (s.captureUnit u).state = .idle) (settings : CaptureSettings) :
    (s.startEnded u settings).CapturesSound := by
  have hunit := h.unit u
  have hfree := hunit.bound_eq_none (by rw [hstate]; rfl)
  have hset := h.setUnit (u := u)
    (c := { (s.captureUnit u).prepared settings with conditions := condNoTransfer, state := .draining })
    (CaptureUnit.sound_of_draining rfl hfree hunit.buffer_le (Nat.zero_le _)) rfl
  unfold State.startEnded
  apply hset.endDrain <;> rw [State.captureUnit_setUnit_same]
  exact hunit.buffer_eq_nil (.inl hstate)

/-- R149, R150: a free unit and a free strip are bound, and the unit may enter WRITING at once. -/
theorem State.CapturesSound.startArmed {u : UnitNo} {settings : CaptureSettings} (hstate : (s.captureUnit u).state = .idle)
    (hstrip : (s.strip settings.strip).binding = none) : (s.startArmed u settings).CapturesSound := by
  have hunit := h.unit u
  have hsound : ((s.captureUnit u).starting .armed settings).Sound :=
    ⟨rfl, hunit.buffer_le, Nat.zero_le _, fun _ => hunit.buffer_eq_nil (.inl hstate), nofun⟩
  have harmed := h.bind (hunit.bound_eq_none (by rw [hstate]; rfl)) hstrip hsound rfl
  rw [State.startArmed_eq]
  exact harmed.ite fun _ => harmed.enterWriting (by rw [State.captureUnit_boundTo]; rfl) _

theorem State.CapturesSound.actCaptureStart (source : Member) (f : CaptureStartFields) :
    (s.actCaptureStart source f).CapturesSound := by
  unfold State.actCaptureStart
  split
  · split_ifs with hbusy hbound
    · exact h.of_bindings (s.bindings_refuse ..)
    · exact h.of_bindings (s.bindings_refuse ..)
    · exact h.startEnded (not_not.mp hbusy) _
    · rw [Bool.not_eq_true, Option.isSome_eq_false_iff, Option.isNone_iff_eq_none] at hbound
      exact h.startArmed (not_not.mp hbusy) hbound
  · exact h.of_bindings (s.bindings_refuse ..)

theorem State.CapturesSound.unitCommand (source : Member) (kind unit : Byte) {act : UnitNo → State → State}
    (hact : ∀ u, (act u s).CapturesSound) : (s.unitCommand source kind unit act).CapturesSound := by
  unfold State.unitCommand
  split
  · exact hact _
  · exact h.of_bindings (s.bindings_refuse ..)

/-- R156, R158: an ending before any record discards what is buffered and releases the unit. -/
theorem State.CapturesSound.endEmpty (u : UnitNo) (conditions : Byte) : (s.endEmpty u conditions).CapturesSound := by
  have hreleased := h.release (u := u)
    (c := { s.captureUnit u with
      conditions := (s.captureUnit u).conditions ||| conditions, buffer := [], marks := 0#8, state := .draining })
    (CaptureUnit.sound_of_draining rfl rfl (Nat.zero_le _) (h.unit u).keepalive_le) rfl
  unfold State.endEmpty
  apply hreleased.endDrain <;> rw [State.captureUnit_releaseBinding, if_pos rfl, State.captureUnit_setUnit_same]

theorem State.CapturesSound.actCaptureStop (source : Member) (unit : Byte) : (s.actCaptureStop source unit).CapturesSound := by
  refine h.unitCommand _ _ _ fun u => ?_
  unfold State.stopUnit
  split
  case h_1 | h_2 => exact h.finish u _ _ _
  case h_3 => exact h.endEmpty u _
  all_goals exact h.of_bindings (s.bindings_refuse ..)

/-- R157: between WRITING and SUSPENDED a unit stays bound. -/
theorem State.CapturesSound.actCaptureSuspend (source : Member) (unit : Byte) :
    (s.actCaptureSuspend source unit).CapturesSound := by
  refine h.unitCommand _ _ _ fun u => ?_
  unfold State.suspendUnit
  split
  · rename_i hstate
    exact h.setUnit ((h.unit u).enter (by rw [hstate]; rfl) (.inr rfl) _) rfl
  · exact h.of_bindings (s.bindings_refuse ..)

theorem State.CapturesSound.actCaptureResume (source : Member) (unit : Byte) :
    (s.actCaptureResume source unit).CapturesSound := by
  refine h.unitCommand _ _ _ fun u => ?_
  unfold State.resumeUnit
  split
  · rename_i hstate
    exact h.setUnit ((h.unit u).enter (by rw [hstate]; rfl) (.inl rfl) _) rfl
  · exact h.of_bindings (s.bindings_refuse ..)

theorem State.CapturesSound.actCaptureClear (source : Member) (unit : Byte) :
    (s.actCaptureClear source unit).CapturesSound := by
  refine h.unitCommand _ _ _ fun u => ?_
  unfold State.clearUnit
  split
  case h_1 | h_2 | h_3 => exact h.endEmpty u _
  case h_4 => exact h.release (CaptureUnit.sound_of_free rfl rfl rfl (h.unit u).keepalive_le nofun) rfl
  case h_5 hstate => exact h.setUnit ((h.unit u).endedToIdle hstate _) rfl
  case h_6 => exact h

/-! ### Touch and release edges (R102, R103, R152) -/

/-- R152: an edge marks a unit, and binds and releases none. -/
theorem State.CapturesSound.edged {t : State} {n : StripNo} {b : Strip} {mark : Byte} (hedged : s.Edged t n b mark)
    (hbinding : b.binding = (s.strip n).binding) : t.CapturesSound := by
  have hstrip (k : StripNo) : (t.strip k).binding = (s.strip k).binding := by
    by_cases hk : k = n
    · rw [hk, hedged.strip, hbinding]
    · rw [hedged.others k hk]
  refine ⟨fun u => ?_, fun u k => ?_⟩ <;> rw [hedged.units]
  · split <;> exact h.unit u
  · rw [hstrip]
    split <;> exact h.bound_iff u k

theorem State.CapturesSound.actTouch (source : Member) (strip touched : Byte) :
    (s.actTouch source strip touched).CapturesSound := by
  unfold State.actTouch State.stripCommand
  split
  · rename_i n _
    cases htouched : (s.strip n).touched <;> split
    · exact h.edged (State.touchOn_edged htouched) rfl
    · unfold State.touchOff
      simpa [htouched] using h
    · unfold State.touchOn
      simpa [htouched] using h
    · exact h.edged (State.touchOff_edged htouched) rfl
  · exact h.of_bindings (s.bindings_refuse ..)

end

end Sys2Proof.Machine
end

section
/-! O58: every command keeps capture units and strips bound one to one (R147, R148, R153). -/

namespace Sys2Proof.Machine

open Sys2Proof

section
variable {s : State} (h : s.CapturesSound)
include h

/-! ### Messages and arrivals (R82 to R85) -/

theorem State.CapturesSound.whenActing (source : Member) {act : State → State} (hact : (act s).CapturesSound) :
    (s.whenActing source act).CapturesSound := h.ite fun _ => hact

omit h in
/-- R171: a NODE RESET frees every unit and every strip. -/
theorem State.nodeReset_capturesSound (s : State) : s.nodeReset.CapturesSound := State.capturesSound_of_reset rfl rfl

theorem State.CapturesSound.act (kind : Byte) (source : Member) (p : List Byte) : (s.act kind source p).CapturesSound := by
  unfold State.act
  split
  case h_5 => exact h.actTouch ..
  case h_9 => exact h.actCaptureStart ..
  case h_10 => exact h.actCaptureStop ..
  case h_11 => exact h.actCaptureSuspend ..
  case h_12 => exact h.actCaptureResume ..
  case h_13 => exact h.actCaptureClear ..
  case h_16 | h_25 => exact h.of_bindings rfl
  case h_17 => exact h.of_bindings s.bindings_restartAging
  case h_18 => exact s.nodeReset_capturesSound
  case h_22 | h_23 => exact h.of_bindings (s.bindings_soloAnnounced _ _ s.bindings_learnKey)
  case h_24 => exact h.of_bindings (s.bindings_soloAnnounced _ _ s.bindings_removeKey)
  all_goals exact h.of_bindings (by simp)

theorem State.CapturesSound.takeSlot (c : SlotCase) : (s.takeSlot c).CapturesSound := by
  unfold State.takeSlot
  split
  · exact h
  · exact h.ite fun _ => h.of_bindings (s.bindings_ownReturn _)
  · exact h.of_bindings rfl
  · exact h.ite fun _ => h.act ..

theorem State.CapturesSound.arrival (bytes : List Byte) : (s.arrival bytes).CapturesSound := by
  unfold State.arrival
  split
  · exact h.of_bindings rfl
  · split
    · have hplaced : (s.placeArrival bytes).CapturesSound := h.of_bindings rfl
      have htaken := hplaced.takeSlot (classify s.clock.member (frameSlot bytes))
      exact htaken.ite fun _ => htaken.of_bindings (State.bindings_countGood _)
    · exact h.of_bindings rfl

/-! ### Commands -/

theorem State.CapturesSound.begun_emit : s.begun.emit.CapturesSound :=
  h.of_bindings ((State.bindings_emit _).trans s.bindings_begun)

theorem execWordClockEdge_capturesSound (e : Edge) : ∃ t, execWordClockEdge e s = .next t ∧ t.CapturesSound := by
  refine ⟨_, rfl, ?_⟩
  split
  case h_1 | h_2 => exact h
  case h_3 => exact h.of_bindings s.bindings_lockEdge
  case h_6 | h_7 => exact h.of_bindings ((State.bindings_closePeriod _).trans s.bindings_begun)
  all_goals exact h.of_bindings rfl

theorem execRefreshWalkTurn_capturesSound : ∃ t, execRefreshWalkTurn s = .next t ∧ t.CapturesSound := by
  have hturned : ({ s with clock.taken.walked := true } : State).CapturesSound := h.of_bindings rfl
  exact ⟨_, rfl, h.ite fun _ => hturned.ite fun _ => hturned.of_bindings (State.bindings_takeMark _)⟩

theorem execMeterEvent_capturesSound : ∃ t, execMeterEvent s = .next t ∧ t.CapturesSound := by
  have hrestarted : ({ s with reports.meterCount := 0 } : State).CapturesSound := h.of_bindings rfl
  exact ⟨_, rfl, h.ite fun _ => hrestarted.ite fun _ => hrestarted.of_bindings (State.bindings_meterReports _)⟩

theorem execCensusClearing_capturesSound : ∃ t, execCensusClearing s = .next t ∧ t.CapturesSound := by
  refine ⟨_, rfl, ?_⟩
  split
  · exact h.ite fun _ => h.of_bindings (s.bindings_clearStep _)
  · exact h

/-- Every command answers a state with its captures sound. -/
theorem exec_capturesSound (c : Instr) : ∃ t, exec c s = .next t ∧ t.CapturesSound := by
  have hwhen {t : State} {p : Prop} [Decidable p] (e : t.bindings = s.bindings) : (if p then t else s).CapturesSound :=
    h.ite fun _ => h.of_bindings e
  have hact {act : State → State} (source : Member) (e : (act s).bindings = s.bindings) :
      (s.whenActing source act).CapturesSound := h.whenActing source (h.of_bindings e)
  have hquery (source : Member) (item object clear : Byte) :
      (s.whenActing source fun t => t.actQuery source item object clear).CapturesSound :=
    hact source (s.bindings_actQuery ..)
  cases c with
  | powerReset => exact ⟨_, rfl, State.capturesSound_of_reset rfl rfl⟩
  | powerResetRelease straps => exact ⟨_, rfl, h.ite fun _ => State.capturesSound_of_reset rfl rfl⟩
  | profileReadEnd memory => exact ⟨_, rfl, hwhen (s.bindings_profileTaken _)⟩
  | lockGained => exact ⟨_, rfl, hwhen rfl⟩
  | lossOfLock => exact ⟨_, rfl, hwhen rfl⟩
  | joining frame => exact ⟨_, rfl, h.ite fun _ => h.arrival frame⟩
  | quietWindowEnd => exact ⟨_, rfl, hwhen rfl⟩
  | frameArrival frame => exact ⟨_, rfl, h.ite fun _ => h.arrival frame⟩
  | frameEmission => exact ⟨_, rfl, h.ite fun _ => h.begun_emit⟩
  | faultBegun anchor => exact ⟨_, rfl, h.ite fun _ => h.begun_emit⟩
  | runCompleted anchor => exact ⟨_, rfl, h.ite fun _ => h.begun_emit⟩
  | realignSwitch anchor => exact ⟨_, rfl, hwhen s.bindings_processOutputs⟩
  | enterRunning anchor => exact ⟨_, rfl, hwhen s.bindings_processOutputs⟩
  | insertion => exact ⟨_, rfl, h.of_bindings s.bindings_insert⟩
  | inflightTimeout => exact ⟨_, rfl, h.of_bindings (State.bindings_loseEntries ..)⟩
  | historyAdvance => exact ⟨_, rfl, hwhen s.bindings_begun⟩
  | sampleProcessing samples =>
    exact ⟨_, rfl, hwhen ((State.bindings_processSamples ..).trans s.bindings_begun)⟩
  | swapCompletion strip samples =>
    exact ⟨_, rfl, hwhen ((State.bindings_processSamples ..).trans s.bindings_begun)⟩
  | outputProcessing => exact ⟨_, rfl, hwhen s.bindings_processOutputs⟩
  | referenceEvent position rolling valid => exact ⟨_, rfl, h.ite fun _ => h.takeReference ..⟩
  | keepalive unit position => exact ⟨_, rfl, h.ite fun _ => h.takeReference ..⟩
  | packingTurn unit => exact ⟨_, rfl, h.ite fun _ => h.packingTurn unit⟩
  | drainEnd unit => exact ⟨_, rfl, h.ite fun _ => h.packingTurn unit⟩
  | heldEndOffer unit => exact ⟨_, rfl, h.ite fun _ => h.packingTurn unit⟩
  | agingEvent => exact ⟨_, rfl, hwhen s.bindings_restartAging⟩
  | leadLapse group => exact ⟨_, rfl, hwhen s.bindings_restartAging⟩
  | censusClearing => exact execCensusClearing_capturesSound h
  | clearingComplete => exact ⟨_, rfl, hwhen (s.bindings_clearStep 127)⟩
  | refreshWalkTurn => exact execRefreshWalkTurn_capturesSound h
  | meterEvent => exact execMeterEvent_capturesSound h
  | scannerVisit => exact ⟨_, rfl, h.ite fun _ => (h.of_bindings (s.bindings_visit _)).of_bindings rfl⟩
  | inputFramingLost port => exact ⟨_, rfl, hwhen rfl⟩
  | inputFramingGained port => exact ⟨_, rfl, hwhen rfl⟩
  | stripSet source fields => exact ⟨_, rfl, hact source (s.bindings_actStripSet ..)⟩
  | place source fields => exact ⟨_, rfl, hact source (s.bindings_actPlace ..)⟩
  | muteGroup source group state => exact ⟨_, rfl, hact source (s.bindings_actMuteGroup ..)⟩
  | cue source fields => exact ⟨_, rfl, hact source (s.bindings_actCue ..)⟩
  | cueFlush source strip => exact ⟨_, rfl, hact source (s.bindings_actCueFlush ..)⟩
  | touch source strip touched => exact ⟨_, rfl, h.whenActing source (h.actTouch ..)⟩
  | fader source strip level => exact ⟨_, rfl, hact source (s.bindings_actFader ..)⟩
  | solo source strip state => exact ⟨_, rfl, hact source (s.bindings_actSolo ..)⟩
  | soloOn source strip => exact ⟨_, rfl, hact source (s.bindings_soloAnnounced _ _ s.bindings_learnKey)⟩
  | soloRefresh source strip => exact ⟨_, rfl, hact source (s.bindings_soloAnnounced _ _ s.bindings_learnKey)⟩
  | soloOff source strip => exact ⟨_, rfl, hact source (s.bindings_soloAnnounced _ _ s.bindings_removeKey)⟩
  | censusSweep source => exact ⟨_, rfl, hact source s.bindings_restartAging⟩
  | groupClaim source group strip => exact ⟨_, rfl, hact source (s.bindings_actGroupClaim ..)⟩
  | groupRelease source group strip => exact ⟨_, rfl, hact source (s.bindings_actGroupRelease ..)⟩
  | groupDelta source group strip change => exact ⟨_, rfl, hact source (s.bindings_actGroupDelta ..)⟩
  | captureStart source fields => exact ⟨_, rfl, h.whenActing source (h.actCaptureStart ..)⟩
  | captureStop source unit => exact ⟨_, rfl, h.whenActing source (h.actCaptureStop ..)⟩
  | captureSuspend source unit => exact ⟨_, rfl, h.whenActing source (h.actCaptureSuspend ..)⟩
  | captureResume source unit => exact ⟨_, rfl, h.whenActing source (h.actCaptureResume ..)⟩
  | captureClear source unit => exact ⟨_, rfl, h.whenActing source (h.actCaptureClear ..)⟩
  | outputSet source fields => exact ⟨_, rfl, hact source (s.bindings_actOutputSet ..)⟩
  | reportControl source fields => exact ⟨_, rfl, hact source rfl⟩
  | queryStrip source object clear => exact ⟨_, rfl, hquery source 1#8 object clear⟩
  | queryCues source object clear => exact ⟨_, rfl, hquery source 2#8 object clear⟩
  | queryCensus source object clear => exact ⟨_, rfl, hquery source 3#8 object clear⟩
  | queryGroup source object clear => exact ⟨_, rfl, hquery source 4#8 object clear⟩
  | queryCapture source object clear => exact ⟨_, rfl, hquery source 5#8 object clear⟩
  | queryAnchor source object clear => exact ⟨_, rfl, hquery source 6#8 object clear⟩
  | queryCounters source object clear => exact ⟨_, rfl, hquery source 7#8 object clear⟩
  | nodeReset source => exact ⟨_, rfl, h.whenActing source s.nodeReset_capturesSound⟩
  | wordClockEdge edge => exact execWordClockEdge_capturesSound h edge

end

/-- Settles O58: the commands that touch no unit and no strip's binding leave `State.bindings`. The others bind a free unit to a
free strip, release a unit together with its strip, or write a unit with its binding as it was. -/
theorem everyStepKeepsCapturesBoundOneToOne : Obligations.EveryStepKeepsCapturesBoundOneToOne := fun _ _ h e =>
  step_keeps (p := State.CapturesSound) (fun _ _ h => h.of_bindings rfl) (fun _ h c => exec_capturesSound h c) h e

end Sys2Proof.Machine
end

section
/-! O43: CAPTURE START. -/

namespace Sys2Proof.Machine

open Sys2Proof

/-! ### Which case applies (R149) -/

/-- R149: a CAPTURE START whose fields name a unit, a strip and a record member. -/
theorem State.actCaptureStart_named {source : Member} {f : CaptureStartFields} {u : UnitNo} {n : StripNo} {m : Member}
    (hunit : f.unit.toNat = u.val) (hstrip : f.strip.toNat = n.val) (hmember : f.recordMember.toNat = m.val) (s : State) :
    s.actCaptureStart source f =
      if (s.captureUnit u).state ≠ .idle then s.refuse source 0x18#8 f.unit .busy
      else if (s.strip n).binding.isSome then s.refuse source 0x18#8 f.unit .notReady
      else if f.punchOut ≤ f.punchIn then s.startEnded u (captureSettings f n m)
      else s.startArmed u (captureSettings f n m) := by
  rw [State.actCaptureStart, unitOf_eq_some hunit, stripOf_eq_some hstrip, memberOf_eq_some hmember]
  rfl

theorem State.actCaptureStart_malformed {source : Member} {f : CaptureStartFields}
    (h : 4 ≤ f.unit.toNat ∨ 32 ≤ f.strip.toNat ∨ 16 ≤ f.recordMember.toNat) (s : State) :
    s.actCaptureStart source f = s.refuse source 0x18#8 f.unit .malformed := by
  unfold State.actCaptureStart
  split
  · rename_i hunit hstrip hmember
    rcases h with h | h | h
    · rw [unitOf_eq_none h] at hunit
      cases hunit
    · rw [stripOf_eq_none h] at hstrip
      cases hstrip
    · rw [memberOf_eq_none h] at hmember
      cases hmember
  · rfl

/-- R100: NO TRANSFER is bit 5 of a notice mask. -/
theorem noTransfer_and_mask (mask : Byte) : 0x20#8 &&& (mask &&& 0x7F#8) = 0#8 ↔ mask.getLsbD 5 = false := by
  revert mask
  decide

/-! ### The first sampling of a bound unit (R150, R151, R155) -/

section
variable {u : UnitNo} {n : StripNo} {c : CaptureUnit} {s : State} (hbound : c.bound = some n)
include hbound

theorem State.sample_boundTo_below {q : Position} (hbelow : q < c.settings.punchOut) : (s.boundTo u n c).sample u q =
    s.boundTo u n (c.sampled q (s.strip n).effective s.clock.period) := by
  rw [State.sample_of_below (n := n), State.captureUnit_boundTo, State.effective_boundTo, State.boundTo_setUnit]
  · rfl
  · rwa [State.captureUnit_boundTo]
  · rwa [State.captureUnit_boundTo]

/-- R155: a capture that begins at or above punch-out leaves its strip free. -/
theorem State.sample_boundTo_out (hfree : (s.strip n).binding = none) {q : Position} (hout : c.settings.punchOut ≤ q) :
    (s.boundTo u n c).sample u q = s.setUnit u (c.sampled q (s.strip n).effective s.clock.period) := by
  rw [State.sample_of_out (n := n), State.captureUnit_boundTo, State.effective_boundTo, State.boundTo_setUnit]
  · exact State.boundTo_released hfree
  · rwa [State.captureUnit_boundTo]
  · rwa [State.captureUnit_boundTo]

end

/-! ### A unit armed, by the transport (R149, R150) -/

theorem CaptureUnit.starting_lateFlag (state : UnitState) (settings : CaptureSettings) (q : Position) (c : CaptureUnit) :
    (c.starting state settings).lateFlag q = if settings.punchIn < q then 0x08#8 else 0#8 := by
  rw [CaptureUnit.lateFlag_eq]
  simp [CaptureUnit.starting, CaptureUnit.prepared]

section
variable {u : UnitNo} {settings : CaptureSettings} {s : State}

theorem State.startArmed_waits (h : s.clock.rolling = false ∨ s.clock.position < settings.punchIn) :
    s.startArmed u settings = s.boundTo u settings.strip ((s.captureUnit u).starting .armed settings) := by
  have hwaits : ¬(s.clock.rolling && decide (settings.punchIn ≤ s.clock.position)) = true := by
    rcases h with h | h
    · simp [h]
    · have hnot : ¬settings.punchIn ≤ s.clock.position := by bv_omega
      simp [hnot]
  rw [State.startArmed_eq, if_neg hwaits]

/-- R150: a unit armed at or above punch-in takes its first sampling at once. -/
theorem State.startArmed_rolls (hrolling : s.clock.rolling = true) (hin : settings.punchIn ≤ s.clock.position) :
    s.startArmed u settings =
      (s.boundTo u settings.strip ((s.captureUnit u).starting .writing settings)).sample u s.clock.position := by
  rw [State.startArmed_eq, if_pos (by simp [hrolling, hin]), State.enterWriting, State.captureUnit_boundTo,
    State.boundTo_setUnit]
  rfl

variable (hrolling : s.clock.rolling = true) (hin : settings.punchIn ≤ s.clock.position)
  (hempty : (s.captureUnit u).buffer = [])
include hrolling hin hempty

/-- R150, R151: below punch-out the first sampling forms the first record. -/
theorem State.startArmed_writes (hbelow : s.clock.position < settings.punchOut) :
    s.startArmed u settings = s.boundTo u settings.strip { (s.captureUnit u).starting .writing settings with
      buffer := [{ position := s.clock.position, level := (s.strip settings.strip).effective
                   flags := if settings.punchIn < s.clock.position then 0x08#8 else 0#8, formed := s.clock.period }]
      lastLevel := some (s.strip settings.strip).effective
      lastPosition := some s.clock.position } := by
  rw [State.startArmed_rolls hrolling hin, State.sample_boundTo_below rfl hbelow,
    CaptureUnit.sampled_of_due hbelow (.inl rfl), CaptureUnit.formRecord_eq, CaptureUnit.starting_lateFlag]
  simp [CaptureUnit.starting, CaptureUnit.prepared, hempty]

/-- R155: at or above punch-out the first sampling is the FINAL one. -/
theorem State.startArmed_finishes (hfree : (s.strip settings.strip).binding = none)
    (hout : settings.punchOut ≤ s.clock.position) :
    s.startArmed u settings = s.setUnit u { (s.captureUnit u).prepared settings with
      state := .draining
      bound := none
      conditions := 0x01#8
      buffer := [{ position := s.clock.position, level := (s.strip settings.strip).effective
                   flags := (if settings.punchIn < s.clock.position then 0x08#8 else 0#8) ||| 0x01#8
                   formed := s.clock.period }]
      lastLevel := some (s.strip settings.strip).effective
      lastPosition := some s.clock.position } := by
  rw [State.startArmed_rolls hrolling hin, State.sample_boundTo_out rfl hfree hout, CaptureUnit.sampled_of_out hout,
    CaptureUnit.formRecord_eq, CaptureUnit.starting_lateFlag]
  simp [CaptureUnit.starting, CaptureUnit.prepared, hempty]

end

/-- Settles O43, by the first case that applies: the refusals, a capture that ends at once, and an armed unit by the
transport. -/
theorem captureStartArmsWritesOrEnds : Obligations.CaptureStartArmsWritesOrEnds := by
  refine ⟨fun source f s hacts => ⟨fun hbad => ?_, fun u n hu hn hm => ?_⟩,
    fun source f u n m c s hacts hu hn hm hidle hempty hfree hc => ?_⟩
  · exact next_whenActing hacts (State.actCaptureStart_malformed hbad s)
  · have hnamed := State.actCaptureStart_named (source := source) (m := ⟨f.recordMember.toNat, hm⟩) hu hn rfl s
    refine ⟨fun hbusy => next_whenActing hacts (hnamed.trans (if_pos hbusy)),
      fun hidle hbound => next_whenActing hacts (hnamed.trans ?_)⟩
    rw [if_neg (not_not.mpr hidle), if_pos (Option.isSome_iff_ne_none.mpr hbound)]
  · have hstarted (t : State) (h : (if f.punchOut ≤ f.punchIn then s.startEnded u (captureSettings f n m)
        else s.startArmed u (captureSettings f n m)) = t) : exec (.captureStart source f) s = .next t := by
      refine next_whenActing hacts ((State.actCaptureStart_named hu hn hm s).trans ?_)
      rw [if_neg (not_not.mpr hidle), if_neg (by simp [hfree]), h]
    obtain rfl : c = (s.captureUnit u).prepared (captureSettings f n m) := hc
    refine ⟨fun hends e he => ?_, fun hordered => ?_⟩
    · subst he
      have hended := State.endDrain_drainEnded (s := s) (s.captureUnit_setUnit_same u { (s.captureUnit u).prepared
        (captureSettings f n m) with conditions := condNoTransfer, state := .draining }) rfl rfl
      refine ⟨_, hstarted _ (if_pos hends), ?_, fun v hv => ?_, ?_, ?_⟩
      · exact hended.frame
      · exact (hended.others v hv).trans ((s.captureUnit_setUnit u v _).trans (if_neg hv.symm))
      · refine hended.unit.trans ?_
        simp only [CaptureUnit.prepared, captureSettings, condNoTransfer, condBits, noTransfer_and_mask]
        rfl
      · refine hended.message.trans ?_
        simp only [CaptureUnit.prepared, captureSettings, condNoTransfer, condBits, ne_eq, noTransfer_and_mask,
          Bool.not_eq_false]
        rfl
    · have hnot : ¬f.punchOut ≤ f.punchIn := by bv_omega
      refine ⟨fun hwaits => hstarted _ ((if_neg hnot).trans (State.startArmed_waits hwaits)),
        fun hrolling hin late level hlate hlevel => ?_⟩
      subst hlate hlevel
      exact ⟨fun hbelow => hstarted _ ((if_neg hnot).trans (State.startArmed_writes hrolling hin hempty hbelow)),
        fun hout => hstarted _ ((if_neg hnot).trans (State.startArmed_finishes hrolling hin hempty hfree hout))⟩

end Sys2Proof.Machine
end

section
/-! O44: CAPTURE STOP, CAPTURE SUSPEND, CAPTURE RESUME and CAPTURE CLEAR. -/

namespace Sys2Proof.Machine

open Sys2Proof

/-- A unit command whose field names a unit is its act. -/
theorem State.unitCommand_of_named {unit : Byte} {u : UnitNo} (h : unit.toNat = u.val) (source : Member) (kind : Byte)
    (act : UnitNo → State → State) (s : State) : s.unitCommand source kind unit act = act u s := by
  rw [State.unitCommand, unitOf_eq_some h]

/-! ### The acts by the unit's state (R156 to R158) -/

section
variable {source : Member} {unit : Byte} {u : UnitNo} {s : State}

theorem State.stopUnit_of_captures (h : (s.captureUnit u).state = .writing ∨ (s.captureUnit u).state = .suspended) :
    s.stopUnit source unit u = s.finish u s.clock.position 0#8 0x02#8 := by
  rcases h with h | h <;> rw [State.stopUnit, h] <;> rfl

theorem State.stopUnit_of_armed (h : (s.captureUnit u).state = .armed) :
    s.stopUnit source unit u = s.endEmpty u 0x22#8 := by
  rw [State.stopUnit, h]
  rfl

theorem State.stopUnit_of_rests
    (h : (s.captureUnit u).state = .idle ∨ (s.captureUnit u).state = .draining ∨ (s.captureUnit u).state = .ended) :
    s.stopUnit source unit u = s.refuse source 0x19#8 unit .notReady := by
  rcases h with h | h | h <;> rw [State.stopUnit, h] <;> rfl

theorem State.clearUnit_of_armed (h : (s.captureUnit u).state = .armed) : s.clearUnit u = s.endEmpty u 0x30#8 := by
  rw [State.clearUnit, h]
  rfl

theorem State.clearUnit_of_records (h : (s.captureUnit u).state = .writing ∨ (s.captureUnit u).state = .draining) :
    s.clearUnit u = s.endEmpty u 0x10#8 := by
  rcases h with h | h <;> rw [State.clearUnit, h] <;> rfl

theorem State.clearUnit_of_suspended (h : (s.captureUnit u).state = .suspended) : s.clearUnit u = s.clearSuspended u := by
  rw [State.clearUnit, h]

theorem State.clearUnit_of_ended (h : (s.captureUnit u).state = .ended) : s.clearUnit u = s.clearEnded u := by
  rw [State.clearUnit, h]

theorem State.clearUnit_of_idle (h : (s.captureUnit u).state = .idle) : s.clearUnit u = s := by
  rw [State.clearUnit, h]

end

/-! ### A capture cut short (R156, R158, R159) -/

/-- R156, R158: `t` is `s` after the capture of unit `u`, with record `c`, is cut short by the conditions `added`: what is
buffered is discarded, the end record built, the strip released, and CAPTURE END called for or not. -/
structure State.CutShort (s t : State) (u : UnitNo) (c : CaptureUnit) (added : Byte) (called : Bool) : Prop where
  frame : t = { s with units := t.units, engine.strips := t.engine.strips, message := t.message }
  others : ∀ v : UnitNo, v ≠ u → t.captureUnit v = s.captureUnit v
  strip : ∀ k : StripNo, t.strip k = if c.bound = some k then { s.strip k with binding := none } else s.strip k
  unit : t.captureUnit u = { c with
    bound := none, conditions := c.conditions ||| added, buffer := [], marks := 0#8
    endRecord := some { c with conditions := c.conditions ||| added }.ending
    state := if called = false then .idle
      else if s.reports.inhibited then .ended
      else if s.message.outbound.length ≤ 30 then .idle
      else .draining }
  message : t.message = if called = true ∧ s.reports.inhibited = false ∧ s.message.outbound.length ≤ 30 then
      (s.offer (c.endMessage u { c with conditions := c.conditions ||| added }.ending)).message
    else s.message

/-- The unit written with the strip it was bound to, and both released. -/
theorem State.released_others_strips {u : UnitNo} {c d : CaptureUnit} (hbound : d.bound = c.bound) (s : State) :
    (∀ v : UnitNo, v ≠ u → ((s.setUnit u d).releaseBinding u).captureUnit v = s.captureUnit v) ∧
    ∀ k : StripNo, ((s.setUnit u d).releaseBinding u).strip k =
      if c.bound = some k then { s.strip k with binding := none } else s.strip k := by
  refine ⟨fun v hv => ?_, fun k => ?_⟩
  · rw [State.captureUnit_releaseBinding, if_neg hv.symm, State.captureUnit_setUnit, if_neg hv.symm]
  · rw [State.strip_releaseBinding, State.captureUnit_setUnit_same, State.strip_setUnit, hbound]

section
variable {u : UnitNo} {c : CaptureUnit} {s : State} (hc : c = s.captureUnit u)
include hc

theorem State.endEmpty_cutShort (added : Byte) : s.CutShort (s.endEmpty u added) u c added
    (((c.conditions ||| added) &&& c.settings.noticeMask) != 0#8) := by
  subst hc
  unfold State.endEmpty
  generalize hd : ({ s.captureUnit u with conditions := _, buffer := _, marks := _, state := _ } : CaptureUnit) = d
  have hbound : d.bound = (s.captureUnit u).bound := by rw [← hd]
  obtain ⟨hothers, hstrips⟩ := State.released_others_strips (u := u) hbound s
  have hunit : ((s.setUnit u d).releaseBinding u).captureUnit u = { d with bound := none } := by
    rw [State.captureUnit_releaseBinding, if_pos rfl, State.captureUnit_setUnit_same]
  have hended := State.endDrain_drainEnded (s := s) hunit (by rw [State.releaseBinding_eq]; rfl)
    (by rw [State.releaseBinding_eq]; rfl)
  generalize ((s.setUnit u d).releaseBinding u).endDrain u = t at hended ⊢
  refine ⟨?_, fun v hv => (hended.others v hv).trans (hothers v hv), fun k => ?_, ?_, ?_⟩
  · rw [hended.frame, State.releaseBinding_eq]
    rfl
  · rw [← hstrips, hended.frame]
    rfl
  · rw [hended.unit, ← hd]
    simp only [bne_eq_false_iff_eq]
    rfl
  · rw [hended.message, ← hd]
    simp only [bne_iff_ne]
    rfl

theorem State.clearSuspended_cutShort : s.CutShort (s.clearSuspended u) u c 0x10#8 false := by
  subst hc
  unfold State.clearSuspended
  dsimp only
  generalize hd : ({ s.captureUnit u with conditions := _, buffer := _, marks := _, state := _, endRecord := _ } : CaptureUnit)
    = d
  have hbound : d.bound = (s.captureUnit u).bound := by rw [← hd]
  obtain ⟨hothers, hstrips⟩ := State.released_others_strips (u := u) hbound s
  refine ⟨?_, hothers, hstrips, ?_, ?_⟩
  · rw [State.releaseBinding_eq]
    rfl
  · rw [State.captureUnit_releaseBinding, if_pos rfl, State.captureUnit_setUnit_same, ← hd]
    rfl
  · rw [State.releaseBinding_eq]
    rfl

end

/-- Settles O44, command by command and by the state of the unit. -/
theorem captureControlsFollowTheUnitState : Obligations.CaptureControlsFollowTheUnitState := by
  intro source unit u c s hacts hu hc _
  have hstop {t : State} (h : s.stopUnit source unit u = t) : exec (.captureStop source unit) s = .next t :=
    next_whenActing hacts ((State.unitCommand_of_named hu ..).trans h)
  have hsuspend {t : State} (h : s.suspendUnit source unit u = t) : exec (.captureSuspend source unit) s = .next t :=
    next_whenActing hacts ((State.unitCommand_of_named hu ..).trans h)
  have hresume {t : State} (h : s.resumeUnit source unit u = t) : exec (.captureResume source unit) s = .next t :=
    next_whenActing hacts ((State.unitCommand_of_named hu ..).trans h)
  have hclear {t : State} (h : s.clearUnit u = t) : exec (.captureClear source unit) s = .next t :=
    next_whenActing hacts ((State.unitCommand_of_named hu ..).trans h)
  subst hc
  refine ⟨fun hidle => hclear (State.clearUnit_of_idle hidle), fun hrests => hstop (State.stopUnit_of_rests hrests),
    fun hnot => hsuspend (if_neg hnot), fun hwriting => hsuspend (if_pos hwriting), fun hnot => hresume (if_neg hnot),
    fun hsuspended => hresume (if_pos hsuspended), fun n hcaptures hbound level hlevel => ?_,
    fun hended => hclear (State.clearUnit_of_ended hended), fun i added hi => ?_⟩
  · subst hlevel
    refine ⟨_, (s.captureUnit u).finished s.clock.position (s.strip n).effective 0#8 0x02#8 s.clock.period,
      hstop ((State.stopUnit_of_captures hcaptures).trans (State.finish_of_bound hbound ..)),
      (State.captureUnit_setUnit_same ..).symm, rfl, fun v hv => ?_, fun k => ?_, ?_, fun hroom => ?_, fun hfull => ?_⟩
    · rw [State.captureUnit_setStrip, State.captureUnit_setUnit, if_neg hv.symm]
    · rw [State.strip_setStrip, State.strip_setUnit]
      simp only [@eq_comm _ n k]
    all_goals rw [CaptureUnit.finished_plain, CaptureUnit.formRecord_eq]
    · simp [hroom]
    · simp [hfull]
  · obtain ⟨t, called, hexec, hcut, hcalled⟩ : ∃ t called, exec i s = .next t ∧
        s.CutShort t u (s.captureUnit u) added called ∧ called = (decide ((s.captureUnit u).state ≠ .suspended) &&
          (((s.captureUnit u).conditions ||| added) &&& (s.captureUnit u).settings.noticeMask) != 0#8) := by
      rcases hi with ⟨rfl, hstate, rfl⟩ | ⟨rfl, hstate, rfl⟩ | ⟨rfl, hstate, rfl⟩
      · exact ⟨_, _, hstop (State.stopUnit_of_armed hstate), State.endEmpty_cutShort rfl _, by simp [hstate]⟩
      · exact ⟨_, _, hclear (State.clearUnit_of_armed hstate), State.endEmpty_cutShort rfl _, by simp [hstate]⟩
      · rcases or_assoc.mpr hstate with hrecords | hsuspended
        · refine ⟨_, _, hclear (State.clearUnit_of_records hrecords), State.endEmpty_cutShort rfl _, ?_⟩
          rcases hrecords with hstate | hstate <;> simp [hstate]
        · exact ⟨_, _, hclear (State.clearUnit_of_suspended hsuspended), State.clearSuspended_cutShort rfl,
            by simp [hsuspended]⟩
    exact ⟨t, _, called, hexec, rfl, hcalled, hcut.frame, hcut.others, hcut.strip, hcut.unit, hcut.message⟩

end Sys2Proof.Machine
end

section
/-! O45: a capture unit's packing turn. -/

namespace Sys2Proof.Machine

open Sys2Proof

/-! ### The records one message takes (R154) -/

theorem State.two_le_freeEntries {s : State} : 2 ≤ s.freeEntries ↔ s.message.outbound.length ≤ 30 := by
  unfold State.freeEntries queueLimit
  omega

/-- R154: up to four records from the head, as far as the offsets fit. -/
theorem packGroup_eq {r : Record} {group rest : List Record} (hlength : group.length ≤ 3)
    (hnear : ∀ x ∈ group, (x.position - r.position).toNat ≤ 65535)
    (hends : group.length = 3 ∨ ∀ x ∈ rest.head?, 65535 < (x.position - r.position).toNat) :
    packGroup (r :: group ++ rest) = r :: group := by
  have htake : (r :: group ++ rest).take 4 = (r :: group) ++ rest.take (3 - group.length) := by
    rw [List.take_append, List.take_of_length_le (by rw [List.length_cons]; omega), List.length_cons]
    congr 2
    omega
  have hhead : ∀ x ∈ r :: group, decide (recordOffset r.position x ≤ 65535) = true := by
    intro x hx
    rcases List.mem_cons.mp hx with rfl | hx
    · simp [recordOffset]
    · exact decide_eq_true (hnear x hx)
  have hrest : (rest.take (3 - group.length)).takeWhile (fun x => decide (recordOffset r.position x ≤ 65535)) = [] := by
    rcases hends with hfull | hfar
    · rw [hfull]
      rfl
    · cases rest with
      | nil => rw [List.take_nil, List.takeWhile_nil]
      | cons x rest =>
        have hx : ¬recordOffset r.position x ≤ 65535 := Nat.not_le.mpr (hfar x rfl)
        cases 3 - group.length with
        | zero => rfl
        | succ k => rw [List.take_succ_cons, List.takeWhile_cons_of_neg (by simpa using hx)]
  have hgroup : packGroup (r :: group ++ rest) =
      ((r :: group ++ rest).take 4).takeWhile fun x => decide (recordOffset r.position x ≤ 65535) := rfl
  rw [hgroup, htake, List.takeWhile_append_of_pos hhead, hrest, List.append_nil]

/-! ### Whether a message is packed (R154) -/

section
variable {u : UnitNo} {c : CaptureUnit} {s : State}

theorem State.packDue_of_cons {r : Record} {later : List Record} (hbuffer : c.buffer = r :: later) :
    s.packDue c = true ↔ s.message.outbound.length ≤ 30 ∧
      (c.state = .draining ∨ 4 ≤ c.buffer.length ∨ r.formed + 480 ≤ s.clock.period) := by
  rw [State.packDue, hbuffer, ← State.two_le_freeEntries]
  simp only [Bool.and_eq_true, Bool.or_eq_true, decide_eq_true_eq, beq_iff_eq]
  rw [or_comm]

theorem State.packDue_eq_false (h : 31 ≤ s.message.outbound.length ∨ c.buffer = [] ∨
    (c.state ≠ .draining ∧ c.buffer.length < 4 ∧ ∀ r ∈ c.buffer.head?, s.clock.period < r.formed + 480)) :
    s.packDue c = false := by
  cases hbuffer : c.buffer with
  | nil =>
    rw [State.packDue, hbuffer]
    exact Bool.and_false _
  | cons r later =>
    rw [Bool.eq_false_iff, ne_eq, State.packDue_of_cons hbuffer]
    rintro ⟨hroom, hdue⟩
    rcases h with hfull | hempty | ⟨hstate, hfew, hyoung⟩
    · omega
    · rw [hbuffer] at hempty
      cases hempty
    · have hr : s.clock.period < r.formed + 480 := hyoung r (by rw [hbuffer]; rfl)
      rcases hdue with hdraining | hmany | hold
      · exact hstate hdraining
      · omega
      · omega

/-! ### The work of a turn (R154, R159) -/

theorem State.turnWork_of_active (hstate : (s.captureUnit u).state ≠ .ended) : s.turnWork u =
    let packed := if s.packDue (s.captureUnit u) then s.pack u else s
    if (packed.captureUnit u).drained then packed.endDrain u else packed := if_neg hstate

theorem CaptureUnit.drained_iff : c.drained = true ↔ c.state = .draining ∧ c.buffer = [] := by
  simp [CaptureUnit.drained]

/-- A turn that packs nothing. -/
theorem State.turnWork_of_not_due (hc : s.captureUnit u = c) (hstate : c.state ≠ .ended) (hdue : s.packDue c = false) :
    s.turnWork u = if c.drained then s.endDrain u else s := by
  subst hc
  rw [State.turnWork_of_active hstate, hdue]
  rfl

/-- R154: a turn that packs one message over the records `r :: group`. -/
theorem State.turnWork_of_due (hc : s.captureUnit u = c) {r : Record} {group rest : List Record} (hstate : c.state ≠ .ended)
    (hdue : s.packDue c = true) (hbuffer : c.buffer = r :: group ++ rest) (hgroup : packGroup c.buffer = r :: group)
    {sent : State} (hsent : sent = (s.setUnit u { c with
        buffer := rest, recordsSent := min 65535 (c.recordsSent + (group.length + 1)) }).offer
      { dest := memberByte c.settings.recordMember
        body := .records u r.position ((r :: group).map fun x =>
          { offset := (x.position - r.position).toNat, level := x.level, flags := x.flags }) }) :
    s.turnWork u = if c.state = .draining ∧ rest = [] then sent.endDrain u else sent := by
  have hpack : s.pack u = sent := by
    subst hc
    unfold State.pack
    dsimp only
    rw [hsent, hgroup, hbuffer, List.drop_left]
    rfl
  have hunit : sent.captureUnit u = { c with
      buffer := rest, recordsSent := min 65535 (c.recordsSent + (group.length + 1)) } := by
    rw [hsent, State.captureUnit, State.offer_units]
    exact State.captureUnit_setUnit_same ..
  have hdrained : (sent.captureUnit u).drained = true ↔ c.state = .draining ∧ rest = [] := by
    rw [hunit, CaptureUnit.drained_iff]
  subst hc
  rw [State.turnWork_of_active hstate, hdue]
  simp only [if_true, hpack, hdrained]

/-- R159: a turn in ENDED. -/
theorem State.turnWork_of_ended (hc : s.captureUnit u = c) (hstate : c.state = .ended) : s.turnWork u = s.offerHeldEnd u :=
  if_pos (hc ▸ hstate)

theorem State.offerHeldEnd_waits (h : s.reports.inhibited = true ∨ 31 ≤ s.message.outbound.length) :
    s.offerHeldEnd u = s := by
  refine if_neg ?_
  have hroom : 2 ≤ s.freeEntries ↔ s.message.outbound.length ≤ 30 := State.two_le_freeEntries
  rcases h with h | h
  · simp [h]
  · simp [hroom]
    omega

theorem State.offerHeldEnd_offers (hc : s.captureUnit u = c) {e : EndRecord} (hon : s.reports.inhibited = false)
    (hroom : s.message.outbound.length ≤ 30) (he : c.endRecord = some e) :
    s.offerHeldEnd u = (s.setUnit u { c with state := .idle }).offer (c.endMessage u e) := by
  subst hc
  unfold State.offerHeldEnd
  simp [hon, State.two_le_freeEntries.mpr hroom, he]

end

/-! ### The commands -/

theorem State.turnOpen_of {u : UnitNo} {s : State} (hstart : s.clock.start = .passing ∨ s.clock.start = .joined)
    (hfree : s.clock.taken.turns[u] = false) : s.turnOpen u = true := by
  rw [State.turnOpen, s.periodsPass_iff.mpr hstart, hfree]
  rfl

/-- Settles O45: a unit that is not ENDED packs or does not, and a buffer left empty ends DRAINING; an ENDED one offers its
end. -/
theorem packingTurnSendsRecordsAndEnds : Obligations.PackingTurnSendsRecordsAndEnds := by
  intro u c s turned hstart hfree hc hturned
  have hopen := State.turnOpen_of hstart hfree
  have hunit : turned.captureUnit u = c := by rw [hturned, hc]; rfl
  have hmessage : turned.message = s.message := by rw [hturned]
  have hreports : turned.reports = s.reports := by rw [hturned]
  have hperiod : turned.clock.period = s.clock.period := by rw [hturned]
  have hturn {t : State} (h : turned.turnWork u = t) : exec (.packingTurn u) s = .next t := by
    refine congrArg Host.Outcome.next ((if_pos hopen).trans ?_)
    rw [← h, hturned]
    rfl
  have hsame {p : Bool} (hp : p = true) :
      (.next (if p then s.packingTurn u else s) : Host.Outcome State Fault Refusal) = exec (.packingTurn u) s := by
    subst hp
    exact congrArg Host.Outcome.next (if_pos hopen).symm
  refine ⟨fun hstate hnot hrests => ?_, fun r group rest sent hstate hroom hbuffer hlength hnear hends hdue hsent => ?_,
    fun hdraining hempty => ?_, fun hended => ⟨fun hwaits => ?_, fun e hon hroom he => ?_⟩⟩
  · refine hturn ((State.turnWork_of_not_due hunit hstate (State.packDue_eq_false ?_)).trans (if_neg ?_))
    · rwa [hmessage, hperiod]
    · rw [CaptureUnit.drained_iff]
      exact fun h => hnot h.2 h.1
  · have hgroup : packGroup c.buffer = r :: group := by
      rw [hbuffer]
      exact packGroup_eq hlength hnear hends
    have hpacks : turned.packDue c = true := by
      rw [State.packDue_of_cons hbuffer, hmessage, hperiod]
      exact ⟨hroom, hdue⟩
    have hwork := State.turnWork_of_due hunit hstate hpacks hbuffer hgroup hsent
    refine ⟨fun hmore => hturn (hwork.trans (if_neg fun h => ?_)), fun hdraining hrest => ⟨hsame ?_, hturn (hwork.trans
      (if_pos ⟨hdraining, hrest⟩))⟩⟩
    · exact hmore.elim (fun h' => h' h.1) fun h' => h' h.2
    · rw [State.drainEndDue, hopen, ← hc, hdraining, hgroup, hbuffer, hrest, List.append_nil,
        decide_eq_true (State.two_le_freeEntries.mpr hroom)]
      simp
  · have hstate : c.state ≠ .ended := by simp [hdraining]
    have hends := State.endDrain_drainEnded (s := s) hunit hmessage hreports
    have hdrains : exec (.drainEnd u) s = exec (.packingTurn u) s := hsame (by
      rw [State.drainEndDue, hopen, ← hc, hdraining, hempty]
      rfl)
    refine ⟨hdrains, _, _, hdrains.trans (hturn ((State.turnWork_of_not_due hunit hstate
      (State.packDue_eq_false (.inr (.inl hempty)))).trans (if_pos (CaptureUnit.drained_iff.mpr ⟨hdraining, hempty⟩)))),
      hends.frame, rfl, hends.unit, hends.message⟩
  · exact hturn ((State.turnWork_of_ended hunit hended).trans (State.offerHeldEnd_waits (by rwa [hmessage, hreports])))
  · have hoffers : exec (.heldEndOffer u) s = exec (.packingTurn u) s := hsame (by
      rw [State.heldEndDue, hopen, ← hc, hended, hon, decide_eq_true (State.two_le_freeEntries.mpr hroom)]
      rfl)
    exact ⟨hoffers, hoffers.trans (hturn ((State.turnWork_of_ended hunit hended).trans
      (State.offerHeldEnd_offers hunit (by rwa [hreports]) (by rwa [hmessage]) he)))⟩

end Sys2Proof.Machine
end

section
/-! O47: the framing of the local input ports, and REPORT CONTROL. -/

namespace Sys2Proof.Machine

open Sys2Proof

/-! ### Local input ports (R174) -/

section
variable {s : State} {p : PortNo}

theorem exec_inputFramingGained (hpass : s.periodsPass = true) :
    exec (.inputFramingGained p) s = .next (s.setPort p true) := congrArg _ (if_pos hpass)

theorem exec_inputFramingLost_of_framed (hpass : s.periodsPass = true) (hframed : s.clock.ports[p] = true) :
    exec (.inputFramingLost p) s = .next ((s.setPort p false).latchNode .inputFault) :=
  congrArg _ (if_pos ⟨hpass, hframed⟩)

theorem exec_inputFramingLost_of_unframed (hunframed : s.clock.ports[p] = false) :
    exec (.inputFramingLost p) s = .next s :=
  congrArg _ (if_neg fun h => Bool.eq_false_iff.mp hunframed h.2)

end

/-! ### REPORT CONTROL (R166) -/

theorem exec_reportControl {source : Member} {s : State} (hacts : s.Acts source) (f : ReportControlFields) :
    exec (.reportControl source f) s = .next (s.actReportControl f) :=
  congrArg _ (State.whenActing_of_acts hacts _)

/-- Settles O47: a port by the framing it has, and REPORT CONTROL by its act, which is never refused. -/
theorem portFramingAndReportControlSwitch : Obligations.PortFramingAndReportControlSwitch := by
  refine ⟨fun p s hstart => ?_, fun source f s hacts => exec_reportControl hacts f⟩
  have hpass := s.periodsPass_iff.mpr hstart
  exact ⟨exec_inputFramingGained hpass, exec_inputFramingLost_of_framed hpass, exec_inputFramingLost_of_unframed⟩

end Sys2Proof.Machine
end

section
/-! O4, O7, O8, O9: power reset, word-clock lock and NODE RESET. -/

namespace Sys2Proof.Machine

open Sys2Proof

/-! ### Power reset (R168) -/

section
variable {straps : Member} {s : State}

theorem exec_powerResetRelease_of_reset (h : s.clock.start = .reset) :
    exec (.powerResetRelease straps) s = .next (s.released straps) := congrArg _ (if_pos h)

theorem exec_powerResetRelease_of_not_reset (h : s.clock.start ≠ .reset) :
    exec (.powerResetRelease straps) s = .next s := congrArg _ (if_neg h)

end

/-- Settles O4: a power reset acts in every state, its release in RESET alone. -/
theorem powerResetAndReleaseEnterLoading : Obligations.PowerResetAndReleaseEnterLoading :=
  ⟨fun _ => rfl, fun _ _ => ⟨exec_powerResetRelease_of_reset, exec_powerResetRelease_of_not_reset⟩⟩

/-! ### Word-clock edges by the start state (R168, R170) -/

section
variable {e : Edge} {s : State}

theorem exec_wordClockEdge_not_counted (h : s.clock.start = .reset ∨ s.clock.start = .loading) :
    exec (.wordClockEdge e) s = .next s := by
  show execWordClockEdge e s = _
  rcases h with h | h <;> simp [execWordClockEdge, h]

theorem exec_wordClockEdge_within_unlocked (h : s.clock.start = .unlocked) :
    exec (.wordClockEdge .within) s = .next s.lockEdge := by
  show execWordClockEdge .within s = _
  simp [execWordClockEdge, h]

theorem exec_wordClockEdge_bad_unlocked (h : s.clock.start = .unlocked) (he : e ≠ .within) :
    exec (.wordClockEdge e) s = .next { s with clock.lockCount := 0 } := by
  show execWordClockEdge e s = _
  cases e with
  | within => exact absurd rfl he
  | outside | missing => simp [execWordClockEdge, h]

theorem exec_wordClockEdge_bad_locked (h : s.clock.start = .passing ∨ s.clock.start = .joined) (he : e ≠ .within) :
    exec (.wordClockEdge e) s = .next s.loseLock := by
  show execWordClockEdge e s = _
  cases e with
  | within => exact absurd rfl he
  | outside | missing => rcases h with h | h <;> simp [execWordClockEdge, h]

theorem State.lockEdge_of_lt (h : s.clock.lockCount < 255) :
    s.lockEdge = { s with clock.lockCount := s.clock.lockCount + 1 } := if_pos (by omega)

theorem State.lockEdge_of_last (h : s.clock.lockCount = 255) : s.lockEdge = s.gainLock := if_neg (by omega)

/-- LOCK_GAINED is the 256th edge (log entry 2). -/
theorem exec_lockGained (hstart : s.clock.start = .unlocked) (hcount : s.clock.lockCount = 255) :
    exec .lockGained s = .next s.gainLock := congrArg _ (if_pos ⟨hstart, hcount.ge⟩)

theorem exec_lossOfLock (h : s.clock.start = .passing ∨ s.clock.start = .joined) :
    exec .lossOfLock s = .next s.loseLock := congrArg _ (if_pos (s.periodsPass_iff.mpr h))

end

/-- Settles O7, by the start state and then by what the edge does to the lock count. -/
theorem lockCountFollowsTheEdgesToLock : Obligations.LockCountFollowsTheEdgesToLock := by
  refine fun s => ⟨fun h e => exec_wordClockEdge_not_counted h, fun hstart =>
    ⟨exec_wordClockEdge_bad_unlocked hstart (by decide), exec_wordClockEdge_bad_unlocked hstart (by decide),
      fun hcount => ?_, fun hcount => ?_⟩⟩
  · rw [exec_wordClockEdge_within_unlocked hstart, State.lockEdge_of_lt hcount]
  · rw [exec_lockGained hstart hcount, exec_wordClockEdge_within_unlocked hstart, State.lockEdge_of_last hcount]
    exact ⟨rfl, rfl⟩

/-- Settles O8: each of the three commands loses lock. -/
theorem lossOfLockKeepsAllButTheLoop : Obligations.LossOfLockKeepsAllButTheLoop := by
  intro s hstart
  rw [exec_lossOfLock hstart, exec_wordClockEdge_bad_locked hstart (by decide),
    exec_wordClockEdge_bad_locked hstart (by decide)]
  exact ⟨rfl, rfl, rfl⟩

/-! ### NODE RESET (R171) -/

theorem exec_nodeReset {source : Member} {s : State} (hacts : s.Acts source) :
    exec (.nodeReset source) s = .next s.nodeReset := congrArg _ (State.whenActing_of_acts hacts _)

/-- Settles O9: the strips' reset record differs from power reset's in its glide alone. -/
theorem nodeResetKeepsLockProfileAndHopBuffer : Obligations.NodeResetKeepsLockProfileAndHopBuffer := by
  intro source s hacts
  rw [exec_nodeReset hacts, State.strip_reset]
  rfl

end Sys2Proof.Machine
end

section
/-! O5: the end of the profile read. -/

namespace Sys2Proof.Machine

open Sys2Proof

/-! ### One event latched several times (R164) -/

theorem EventVector.latchAll_replicate (n : Nat) (e : NoticeEvent) (v : EventVector) :
    v.latchAll (List.replicate n e) =
      if n = 0 then v else { events := v.events ||| e.set, count := min 255 (v.count + n) } := by
  induction n generalizing v with
  | zero => rfl
  | succ n ih =>
    have hfirst : v.latchAll (List.replicate (n + 1) e) = (v.latch e).latchAll (List.replicate n e) := rfl
    rw [hfirst, ih, if_neg n.succ_ne_zero]
    unfold EventVector.latch
    split
    · rename_i hn
      rw [hn]
      rfl
    · simp only [holdAt, BitVec.or_assoc, BitVec.or_self, EventVector.mk.injEq, true_and]
      omega

theorem State.foldl_latchNode (es : List NoticeEvent) (s : State) :
    es.foldl (fun t e => t.latchNode e) s = { s with
      reports.vectors := s.reports.vectors.set nodeSource (s.reports.vectors[nodeSource].latchAll es) } := by
  induction es generalizing s with
  | nil => simp [EventVector.latchAll]
  | cons e es ih =>
    rw [List.foldl_cons, ih]
    simp [State.latchNode, State.latch, EventVector.latchAll]

/-! ### What is read from the memory (R169) -/

section
variable {bytes : List Byte} {memory : Option (List Byte)}

theorem goodProfile_iff {n : Nat} (hn : n = (byteAt bytes 14).toNat) :
    goodProfile bytes = true ↔ 17 + 4 * n ≤ bytes.length ∧
      crc16 (bytes.take (15 + 4 * n)) = field16 bytes (15 + 4 * n) ∧ byteAt bytes 0 = 1#8 := by
  subst hn
  simp [goodProfile, and_assoc]

theorem loadProfile_of_bad (h : ∀ bytes ∈ memory, goodProfile bytes = false) :
    loadProfile memory = { profile := Profile.default, anchors := [], faults := 1 } := by
  cases memory with
  | none => rfl
  | some bytes => exact if_neg (by simp [h bytes rfl])

theorem loadProfile_of_good (h : goodProfile bytes = true) : loadProfile (some bytes) =
    { profile := readProfile bytes
      anchors := acceptEntries (readEntries bytes)
      faults := loadFaults (byteAt bytes 14).toNat (readEntries bytes).length (acceptEntries (readEntries bytes)).length } :=
  if_pos h

theorem readEntries_length : (readEntries bytes).length = min 32 (byteAt bytes 14).toNat := by
  rw [readEntries, List.length_map, List.length_range]

/-- Entries are left untaken when more than 32 are stored. -/
theorem loadFaults_min (n accepted : Nat) :
    loadFaults n (min 32 n) accepted = (min 32 n - accepted) + (if 32 < n then 1 else 0) := by
  have htaken : min 32 n < n ↔ 32 < n := by omega
  simp only [loadFaults, htaken]

end

/-! ### What is taken from it (R24, R63, R168) -/

section
variable (l : ProfileLoad) (s : State)

theorem State.profileTaken_eq : s.profileTaken l = { s with
    clock := { s.clock with profile := l.profile, start := .unlocked, lockCount := 0 }
    engine := (s.mapStrips fun _ st => { st with glide := l.profile.glide }).engine
    outputs.anchors := l.anchors
    reports.vectors := s.reports.vectors.set nodeSource
      (s.reports.vectors[nodeSource].latchAll (List.replicate l.faults .profileFault)) } := by
  rw [State.profileTaken, State.foldl_latchNode]
  simp only [State.mapStrips]

theorem State.vector_profileTaken (src : SourceNo) : (s.profileTaken l).reports.vectors[src] =
    if src = nodeSource then s.reports.vectors[nodeSource].latchAll (List.replicate l.faults .profileFault)
    else s.reports.vectors[src] := by
  rw [State.profileTaken_eq]
  simp [Vector.getElem_set, Fin.val_inj, eq_comm]

theorem State.strip_profileTaken (k : StripNo) :
    (s.profileTaken l).strip k = { s.strip k with glide := l.profile.glide } := by
  rw [State.strip, State.profileTaken_eq]
  exact s.strip_mapStrips (fun _ st => { st with glide := l.profile.glide }) k

end

theorem exec_profileReadEnd {memory : Option (List Byte)} {s : State} (h : s.clock.start = .loading) :
    exec (.profileReadEnd memory) s = .next (s.profileTaken (loadProfile memory)) := congrArg _ (if_pos h)

/-- Settles O5: the profile load by whether the memory holds a profile, then what taking it changes. -/
theorem profileReadTakesTheProfileOrTheDefault : Obligations.ProfileReadTakesTheProfileOrTheDefault := by
  refine ⟨fun bytes n hn => goodProfile_iff hn, fun memory s hstart hbad => ?_,
    fun bytes entries n faults s hstart hgood hn hentries hfaults => ?_⟩
  · rw [exec_profileReadEnd hstart, loadProfile_of_bad hbad]
    rfl
  · have hread : entries = readEntries bytes := by
      rw [hentries, hn]
      rfl
    have hload : loadProfile (some bytes) = { profile := readProfile bytes, anchors := acceptEntries entries, faults } := by
      rw [loadProfile_of_good hgood, readEntries_length, loadFaults_min, hfaults, hn, hread]
    rw [exec_profileReadEnd hstart, hload]
    refine ⟨_, rfl, ?_, ?_, fun k => ?_, fun src hsrc => ?_, ?_⟩
    · rw [State.profileTaken_eq]
      rfl
    · rw [State.profileTaken_eq]
      rfl
    · exact State.strip_profileTaken ..
    · exact (State.vector_profileTaken ..).trans (if_neg hsrc)
    · rw [State.vector_profileTaken, if_pos rfl, EventVector.latchAll_replicate]

end Sys2Proof.Machine
end

section
/-! SUPPORT. The queue of commands is the model's own (log entry 5): no operation of any block touches it. -/

namespace Sys2Proof.Machine

open Sys2Proof

/-! ### Branches, folds and the shared operations -/

/-- A command that changes nothing unless its condition holds keeps the queue where its effect does. -/
theorem State.pending_ite {s t : State} {p : Prop} [Decidable p] (h : t.pending = s.pending) :
    (if p then t else s).pending = s.pending := by
  split
  · exact h
  · rfl

/-- A fold of operations that keep the queue keeps it. -/
theorem State.pending_foldl {α : Type} {f : State → α → State} (hf : ∀ t a, (f t a).pending = t.pending) (l : List α)
    (s : State) : (l.foldl f s).pending = s.pending := by
  induction l generalizing s with
  | nil => rfl
  | cons a l ih => rw [List.foldl_cons, ih, hf]

section
variable {s t : State}

theorem State.UnitsBecome.pending {c : UnitNo → CaptureUnit} (h : s.UnitsBecome t c) : t.pending = s.pending := by
  rw [h.frame]

theorem State.TransportFrame.pending (h : s.TransportFrame t) : t.pending = s.pending := by rw [h.frame]

theorem State.GroupWork.pending (h : s.GroupWork t) : t.pending = s.pending := by rw [h.frame]

end

section
variable (s : State)

@[simp] theorem State.pending_announce (b : Body) : (s.announce b).pending = s.pending := State.offer_pending ..

@[simp] theorem State.pending_refuse (source : Member) (kind object : Byte) (reason : Reason) :
    (s.refuse source kind object reason).pending = s.pending := State.offer_pending ..

@[simp] theorem State.pending_setStripEffective (n : StripNo) (length : Nat) (st : Strip) :
    (s.setStripEffective n length st).pending = s.pending := by
  unfold State.setStripEffective
  split <;> rfl

@[simp] theorem State.pending_stepAnchors (steps : List AnchorStep) : (s.stepAnchors steps).pending = s.pending :=
  State.latchAnchors_pending ..

/-! ### Who acts (R26, R85, R120, R156, section 8.4) -/

theorem State.pending_whenActing {s : State} (source : Member) {act : State → State}
    (hact : (act s).pending = s.pending) : (s.whenActing source act).pending = s.pending := State.pending_ite hact

theorem State.pending_stripCommand (source : Member) (kind strip : Byte) {act : StripNo → State → State}
    (hact : ∀ n, (act n s).pending = s.pending) : (s.stripCommand source kind strip act).pending = s.pending := by
  unfold State.stripCommand
  split
  · exact hact _
  · exact s.pending_refuse ..

theorem State.pending_stripsCommand (source : Member) (kind strip : Byte) {act : StripNo → State → State}
    (hact : ∀ n t, (act n t).pending = t.pending) : (s.stripsCommand source kind strip act).pending = s.pending := by
  unfold State.stripsCommand
  split
  · exact State.pending_foldl (fun t n => hact n t) _ _
  · exact s.pending_stripCommand _ _ _ fun n => hact n s

theorem State.pending_unitCommand (source : Member) (kind unit : Byte) {act : UnitNo → State → State}
    (hact : ∀ u, (act u s).pending = s.pending) : (s.unitCommand source kind unit act).pending = s.pending := by
  unfold State.unitCommand
  split
  · exact hact _
  · exact s.pending_refuse ..

theorem State.pending_announced (source : Member) (group strip : Byte) {act : GroupNo → Key → State → State}
    (hact : ∀ g k, (act g k s).pending = s.pending) : (s.announced source group strip act).pending = s.pending := by
  unfold State.announced
  split
  · exact hact ..
  · rfl

theorem State.pending_soloAnnounced (source : Member) (strip : Byte) {act : Key → State → State}
    (hact : ∀ k, (act k s).pending = s.pending) : (s.soloAnnounced source strip act).pending = s.pending := by
  unfold State.soloAnnounced
  split
  · exact hact _
  · rfl

/-! ### Groups (chapter 8) -/

@[simp] theorem State.pending_releaseIfLead (group : Option GroupNo) (n : StripNo) :
    (s.releaseIfLead group n).pending = s.pending := (s.releaseIfLead_groupWork n group).pending

@[simp] theorem State.pending_groupTouch (n : StripNo) : (s.groupTouch n).pending = s.pending :=
  (s.groupTouch_groupWork n).pending

@[simp] theorem State.pending_applyDelta (g : GroupNo) (change : Int) : (s.applyDelta g change).pending = s.pending := by
  rw [State.applyDelta_eq]

theorem State.pending_takeClaim (g : GroupNo) (k : Key) : (s.takeClaim g k).pending = s.pending := by
  unfold State.takeClaim
  split
  · rfl
  · split
    · rfl
    · exact State.pending_ite rfl

theorem State.pending_takeRelease (g : GroupNo) (k : Key) : (s.takeRelease g k).pending = s.pending := by
  refine State.pending_ite ?_
  rw [State.handOn_eq]
  rfl

theorem State.pending_takeDelta (g : GroupNo) (k : Key) (change : Int) :
    (s.takeDelta g k change).pending = s.pending := by
  unfold State.takeDelta
  split
  · rw [State.setGroup_pending, State.pending_applyDelta]
  · rfl

@[simp] theorem State.pending_ageGroups : s.ageGroups.pending = s.pending := by
  refine State.pending_foldl (fun t g => ?_) _ _
  rw [State.ageGroup_frame]

@[simp] theorem State.pending_claimRefresh (g : GroupNo) : (s.claimRefresh g).pending = s.pending := by
  unfold State.claimRefresh
  split
  · exact State.pending_ite (s.pending_announce _)
  · rfl

/-! ### Capture units (chapter 9) -/

@[simp] theorem State.pending_releaseBinding (u : UnitNo) : (s.releaseBinding u).pending = s.pending := by
  rw [State.releaseBinding_eq]

@[simp] theorem State.pending_captureEdge (n : StripNo) (mark : Byte) : (s.captureEdge n mark).pending = s.pending := by
  rw [State.captureEdge_frame]

@[simp] theorem State.pending_endDrain (u : UnitNo) : (s.endDrain u).pending = s.pending := by rw [State.endDrain_eq]

theorem State.pending_pack (u : UnitNo) : (s.pack u).pending = s.pending := State.offer_pending ..

theorem State.pending_offerHeldEnd (u : UnitNo) : (s.offerHeldEnd u).pending = s.pending := by
  unfold State.offerHeldEnd
  dsimp only
  split
  · split
    · exact State.offer_pending ..
    · rfl
  · rfl

theorem State.pending_packingTurn (u : UnitNo) : (s.packingTurn u).pending = s.pending := by
  unfold State.packingTurn State.turnWork
  split
  · exact State.pending_offerHeldEnd ..
  · have hpacked (t : State) : (if t.packDue (t.captureUnit u) then t.pack u else t).pending = t.pending :=
      State.pending_ite (t.pending_pack u)
    exact (State.pending_ite (State.pending_endDrain ..)).trans (hpacked _)

theorem State.pending_endEmpty (u : UnitNo) (conditions : Byte) : (s.endEmpty u conditions).pending = s.pending :=
  (State.pending_endDrain ..).trans (State.pending_releaseBinding ..)

theorem State.pending_startArmed (u : UnitNo) (settings : CaptureSettings) :
    (s.startArmed u settings).pending = s.pending := State.pending_ite (State.enterWriting_becomes ..).pending

theorem State.pending_actCaptureStart (source : Member) (f : CaptureStartFields) :
    (s.actCaptureStart source f).pending = s.pending := by
  unfold State.actCaptureStart
  split
  · split
    · exact s.pending_refuse ..
    · split
      · exact s.pending_refuse ..
      · split
        · exact State.pending_endDrain ..
        · exact s.pending_startArmed ..
  · exact s.pending_refuse ..

theorem State.pending_actCaptureStop (source : Member) (unit : Byte) :
    (s.actCaptureStop source unit).pending = s.pending := by
  refine s.pending_unitCommand _ _ _ fun u => ?_
  unfold State.stopUnit
  split
  case h_1 | h_2 => exact (State.finish_becomes ..).pending
  · exact s.pending_endEmpty ..
  all_goals exact s.pending_refuse ..

theorem State.pending_actCaptureSuspend (source : Member) (unit : Byte) :
    (s.actCaptureSuspend source unit).pending = s.pending := by
  refine s.pending_unitCommand _ _ _ fun u => ?_
  unfold State.suspendUnit
  split
  · rfl
  · exact s.pending_refuse ..

theorem State.pending_actCaptureResume (source : Member) (unit : Byte) :
    (s.actCaptureResume source unit).pending = s.pending := by
  refine s.pending_unitCommand _ _ _ fun u => ?_
  unfold State.resumeUnit
  split
  · rfl
  · exact s.pending_refuse ..

theorem State.pending_actCaptureClear (source : Member) (unit : Byte) :
    (s.actCaptureClear source unit).pending = s.pending := by
  refine s.pending_unitCommand _ _ _ fun u => ?_
  unfold State.clearUnit
  split
  case h_4 => exact State.pending_releaseBinding ..
  case h_5 | h_6 => rfl
  all_goals exact s.pending_endEmpty ..

/-! ### Strips and cues (chapters 2, 3 and 6) -/

theorem State.pending_actStripSet (source : Member) (f : StripSetFields) :
    (s.actStripSet source f).pending = s.pending := by
  unfold State.actStripSet
  split
  · exact s.pending_refuse ..
  · refine s.pending_stripsCommand _ _ _ fun n t => ?_
    rw [State.applyStripSet_frame]

theorem State.pending_actMuteGroup (source : Member) (group state : Byte) :
    (s.actMuteGroup source group state).pending = s.pending := by
  unfold State.actMuteGroup
  split
  · exact State.mapStrips_pending ..
  · exact s.pending_refuse ..

@[simp] theorem State.pending_commit (n : StripNo) (taps : List Tap) : (s.commit n taps).pending = s.pending := by
  unfold State.commit
  dsimp only
  split
  · rfl
  · split <;> rfl

theorem State.pending_actPlace (source : Member) (f : PlaceFields) : (s.actPlace source f).pending = s.pending := by
  unfold State.actPlace
  split
  · exact s.pending_refuse ..
  · split
    · unfold State.takePlace
      dsimp only
      split
      · exact State.pending_commit ..
      · split
        · rfl
        · exact State.pending_commit ..
    · exact State.pending_refuse ..

theorem State.pending_actCue (source : Member) (f : CueFields) : (s.actCue source f).pending = s.pending := by
  have hoffered (n : StripNo) : (s.offerCueTo n (formCue f)).pending = s.pending := by rw [State.offerCueTo_frame]
  refine s.pending_stripCommand _ _ _ fun n => ?_
  unfold State.takeCue
  split
  · split
    · rfl
    · split
      · rfl
      · exact hoffered n
  · exact hoffered n

theorem State.pending_actCueFlush (source : Member) (strip : Byte) : (s.actCueFlush source strip).pending = s.pending :=
  s.pending_stripsCommand _ _ _ fun n t => t.setCues_pending n []

theorem State.pending_touchOn (n : StripNo) : (s.touchOn n).pending = s.pending := by
  unfold State.touchOn
  dsimp only
  split
  · rfl
  · split <;> simp

theorem State.pending_touchOff (n : StripNo) : (s.touchOff n).pending = s.pending := by
  unfold State.touchOff
  dsimp only
  split
  · split <;> simp
  · rfl

theorem State.pending_actTouch (source : Member) (strip touched : Byte) :
    (s.actTouch source strip touched).pending = s.pending := by
  refine s.pending_stripCommand _ _ _ fun n => ?_
  split
  · exact s.pending_touchOn n
  · exact s.pending_touchOff n

@[simp] theorem State.pending_handMove (n : StripNo) (change : Int) : (s.handMove n change).pending = s.pending := by
  rw [State.handMove_eq]

theorem State.pending_actFader (source : Member) (strip : Byte) (level : BitVec 16) :
    (s.actFader source strip level).pending = s.pending := by
  refine s.pending_stripCommand _ _ _ fun n => ?_
  unfold State.moveFader
  split
  · rfl
  · exact (State.pending_handMove ..).trans (s.pending_setStripEffective ..)

/-! ### Census (chapter 7) -/

@[simp] theorem State.pending_judgeSolo : s.judgeSolo.pending = s.pending := by rw [State.judgeSolo_frame]

@[simp] theorem State.pending_soloChanged (n : StripNo) : (s.soloChanged n).pending = s.pending := by
  rw [State.soloChanged_frame]

theorem State.pending_actSolo (source : Member) (strip state : Byte) :
    (s.actSolo source strip state).pending = s.pending := by
  refine s.pending_stripsCommand _ _ _ fun n t => ?_
  split
  · unfold State.soloStrip
    split
    · rfl
    · simp
  · exact State.pending_ite (by simp)

@[simp] theorem State.pending_learnIn (i : Fin 3) (k : Key) : (s.learnIn i k).pending = s.pending :=
  State.pending_ite rfl

theorem State.pending_learnKey (k : Key) : (s.learnKey k).pending = s.pending := by simp [State.learnKey]

theorem State.pending_removeKey (k : Key) : (s.removeKey k).pending = s.pending := State.pending_judgeSolo _

@[simp] theorem State.pending_rotate : s.rotate.pending = s.pending := by rw [State.rotate_frame]

theorem State.pending_restartAging : s.restartAging.pending = s.pending := by
  have hrotated (t : State) : t.rotateOrHold.pending = t.pending := by
    unfold State.rotateOrHold
    split
    · rfl
    · exact t.pending_rotate
  have hmarked (t : State) : t.markSoloed.pending = t.pending := by rw [State.markSoloed_frame]
  exact (hmarked _).trans ((State.pending_ageGroups _).trans (hrotated _))

theorem State.pending_clearStep (i : Fin 128) : (s.clearStep i).pending = s.pending := by
  unfold State.clearStep
  dsimp only
  split
  · rfl
  · unfold State.clearingDone
    split
    · exact State.pending_rotate _
    · rfl

theorem State.pending_takeMark : s.takeMark.pending = s.pending := by
  unfold State.takeMark
  split
  · exact State.pending_announce ..
  · split
    · exact State.pending_claimRefresh ..
    · rfl

/-! ### Anchors and reports (chapters 4 and 10) -/

theorem State.pending_actOutputSet (source : Member) (f : OutputSetFields) :
    (s.actOutputSet source f).pending = s.pending := by
  unfold State.actOutputSet
  split
  · rfl
  · split
    · exact s.pending_refuse ..
    · split
      · rfl
      · exact s.pending_refuse ..

theorem State.pending_visit (src : SourceNo) : (s.visit src).pending = s.pending :=
  State.pending_ite (s.offer_pending _)

theorem State.pending_answer (source : Member) (item : QueryItem) (object : Byte) (shares : List ReplyShare)
    {after : State → State} (hafter : ∀ t, (after t).pending = t.pending) :
    (s.answer source item object shares after).pending = s.pending := by
  unfold State.answer
  split
  · exact s.pending_refuse ..
  · rw [hafter, State.pending_foldl fun t _ => State.offer_pending ..]

/-- R98: a query of any item, its object named or not. -/
theorem State.pending_actQuery (source : Member) (item object clear : Byte) :
    (s.actQuery source item object clear).pending = s.pending := by
  have hanswered (i : QueryItem) (shares : List ReplyShare) :
      (s.answer source i object shares id).pending = s.pending := s.pending_answer _ _ _ _ fun _ => rfl
  have hrefused : (s.refuseQuery source object).pending = s.pending := s.pending_refuse ..
  unfold State.actQuery State.actQueryStrip State.actQueryCues State.actQueryGroup State.actQueryCapture
    State.actQueryAnchor
  split
  case h_3 => exact hanswered ..
  case h_7 => exact s.pending_answer _ _ _ _ fun _ => State.pending_ite rfl
  case h_8 => exact hrefused
  all_goals
    split
    · exact hanswered ..
    · exact hrefused

/-! ### Clock and Start (chapter 11) -/

theorem State.pending_profileTaken (l : ProfileLoad) : (s.profileTaken l).pending = s.pending := by
  rw [State.profileTaken_eq]

theorem State.pending_lockEdge : s.lockEdge.pending = s.pending := by
  unfold State.lockEdge
  split <;> rfl

@[simp] theorem State.pending_closePeriod : s.closePeriod.pending = s.pending := State.pending_ite rfl

@[simp] theorem State.pending_openPeriod : s.openPeriod.pending = s.pending := rfl

theorem State.pending_processSamples (samples : List Sample) : (s.begun.processSamples samples).pending = s.pending := by
  rw [State.processSamples_eq, State.begun_pending]

theorem State.pending_takeReference (position : Position) (rolling valid : Bool) :
    (s.takeReference position rolling valid).pending = s.pending := by
  have hfaulted : (if valid then s else s.latchNode .positionFault).pending = s.pending := by
    split <;> rfl
  exact (State.moved_frame ..).pending.trans hfaulted

/-! ### Messages and the loop (chapters 1 and 5) -/

@[simp] theorem State.pending_loseEntries (n : Nat) : (s.loseEntries n).pending = s.pending := by
  induction n generalizing s with
  | zero => rfl
  | succ n ih => exact ih _

theorem State.pending_ownReturn (kind : Byte) : (s.ownReturn kind).pending = s.pending := by
  unfold State.ownReturn
  split
  · exact State.pending_loseEntries ..
  · split <;> rfl

@[simp] theorem State.pending_insert : s.insert.pending = s.pending := by
  obtain ⟨due, queue, flight, h, -⟩ := s.insert_cases
  rw [h]

theorem State.pending_begun_emit : s.begun.emit.pending = s.pending :=
  calc s.begun.emit.pending = s.begun.insert.handOffs.pending := rfl
    _ = s.begun.insert.pending := State.pending_ite (State.pending_stepAnchors ..)
    _ = s.pending := (State.pending_insert _).trans s.begun_pending

/-- R85: a message acted on, by its kind. -/
theorem State.pending_act (kind : Byte) (source : Member) (p : List Byte) : (s.act kind source p).pending = s.pending := by
  unfold State.act
  split
  · exact s.pending_actStripSet ..
  · exact s.pending_actPlace ..
  · exact s.pending_actCue ..
  · exact s.pending_actCueFlush ..
  · exact s.pending_actTouch ..
  · exact s.pending_actFader ..
  · exact s.pending_actSolo ..
  · exact s.pending_actMuteGroup ..
  · exact s.pending_actCaptureStart ..
  · exact s.pending_actCaptureStop ..
  · exact s.pending_actCaptureSuspend ..
  · exact s.pending_actCaptureResume ..
  · exact s.pending_actCaptureClear ..
  · exact s.pending_actOutputSet ..
  · exact s.pending_actQuery ..
  · rfl
  · exact s.pending_restartAging
  · rfl
  · exact s.pending_announced _ _ _ s.pending_takeClaim
  · exact s.pending_announced _ _ _ s.pending_takeRelease
  · exact s.pending_announced _ _ _ fun g k => s.pending_takeDelta g k _
  · exact s.pending_soloAnnounced _ _ s.pending_learnKey
  · exact s.pending_soloAnnounced _ _ s.pending_learnKey
  · exact s.pending_soloAnnounced _ _ s.pending_removeKey
  · rfl

theorem State.pending_takeSlot (c : SlotCase) : (s.takeSlot c).pending = s.pending := by
  unfold State.takeSlot
  split
  · rfl
  · exact State.pending_ite (s.pending_ownReturn _)
  · rfl
  · exact State.pending_ite (s.pending_act ..)

theorem State.pending_arrival (bytes : List Byte) : (s.arrival bytes).pending = s.pending := by
  unfold State.arrival
  split
  · rfl
  · split
    · have hcounted (t : State) : t.countGood.pending = t.pending := by
        unfold State.countGood
        split <;> rfl
      exact (State.pending_ite (hcounted _)).trans (State.pending_takeSlot ..)
    · rfl

end

end Sys2Proof.Machine
end

section
/-! O1, O2: a step runs the command at the front of the queue, and every command answers a next state with the queue as it was. -/

namespace Sys2Proof.Machine

open Sys2Proof

theorem step_of_cons (c : Instr) (rest : List Instr) (s : State) :
    step { s with pending := c :: rest } = exec c { s with pending := rest } := rfl

theorem step_of_nil {s : State} (h : s.pending = []) : step s = .next s := by rw [step, h]

/-- Settles O1: the two branches of the step, by the queue. -/
theorem stepRunsFrontCommand : Obligations.StepRunsFrontCommand := ⟨step_of_cons, fun _ => step_of_nil⟩

section
variable (s : State)

theorem execWordClockEdge_pending (e : Edge) : ∃ t, execWordClockEdge e s = .next t ∧ t.pending = s.pending := by
  refine ⟨_, rfl, ?_⟩
  split
  case h_3 => exact s.pending_lockEdge
  case h_6 | h_7 => simp
  all_goals rfl

theorem execRefreshWalkTurn_pending : ∃ t, execRefreshWalkTurn s = .next t ∧ t.pending = s.pending := by
  have hturned := State.pending_takeMark { s with clock.taken.walked := true }
  exact ⟨_, rfl, State.pending_ite ((State.pending_ite hturned).trans rfl)⟩

theorem execMeterEvent_pending : ∃ t, execMeterEvent s = .next t ∧ t.pending = s.pending := by
  have hreports (t : State) : t.meterReports.pending = t.pending := by rw [State.meterReports_frame]
  exact ⟨_, rfl, State.pending_ite ((State.pending_ite (hreports _)).trans rfl)⟩

theorem execCensusClearing_pending : ∃ t, execCensusClearing s = .next t ∧ t.pending = s.pending := by
  refine ⟨_, rfl, ?_⟩
  split
  · exact State.pending_ite (s.pending_clearStep _)
  · rfl

end

/-- Settles O2: every arm of the dispatch answers a next state, and its effect on any block leaves the queue alone. -/
theorem everyCommandAnswersAndKeepsTheQueue : Obligations.EveryCommandAnswersAndKeepsTheQueue := by
  intro c s
  cases c with
  | powerReset => exact ⟨_, rfl, rfl⟩
  | powerResetRelease straps => exact ⟨_, rfl, State.pending_ite rfl⟩
  | profileReadEnd memory => exact ⟨_, rfl, State.pending_ite (s.pending_profileTaken _)⟩
  | lockGained => exact ⟨_, rfl, State.pending_ite rfl⟩
  | lossOfLock => exact ⟨_, rfl, State.pending_ite rfl⟩
  | joining frame => exact ⟨_, rfl, State.pending_ite (s.pending_arrival frame)⟩
  | quietWindowEnd => exact ⟨_, rfl, State.pending_ite rfl⟩
  | frameArrival frame => exact ⟨_, rfl, State.pending_ite (s.pending_arrival frame)⟩
  | frameEmission => exact ⟨_, rfl, State.pending_ite s.pending_begun_emit⟩
  | faultBegun anchor => exact ⟨_, rfl, State.pending_ite s.pending_begun_emit⟩
  | runCompleted anchor => exact ⟨_, rfl, State.pending_ite s.pending_begun_emit⟩
  | realignSwitch anchor => exact ⟨_, rfl, State.pending_ite rfl⟩
  | enterRunning anchor => exact ⟨_, rfl, State.pending_ite rfl⟩
  | insertion => exact ⟨_, rfl, s.pending_insert⟩
  | inflightTimeout => exact ⟨_, rfl, State.pending_loseEntries ..⟩
  | historyAdvance => exact ⟨_, rfl, State.pending_ite s.begun_pending⟩
  | sampleProcessing samples => exact ⟨_, rfl, State.pending_ite (s.pending_processSamples samples)⟩
  | swapCompletion strip samples => exact ⟨_, rfl, State.pending_ite (s.pending_processSamples samples)⟩
  | outputProcessing => exact ⟨_, rfl, State.pending_ite rfl⟩
  | referenceEvent position rolling valid => exact ⟨_, rfl, State.pending_ite (s.pending_takeReference ..)⟩
  | keepalive unit position => exact ⟨_, rfl, State.pending_ite (s.pending_takeReference ..)⟩
  | packingTurn unit => exact ⟨_, rfl, State.pending_ite (s.pending_packingTurn unit)⟩
  | drainEnd unit => exact ⟨_, rfl, State.pending_ite (s.pending_packingTurn unit)⟩
  | heldEndOffer unit => exact ⟨_, rfl, State.pending_ite (s.pending_packingTurn unit)⟩
  | agingEvent => exact ⟨_, rfl, State.pending_ite s.pending_restartAging⟩
  | leadLapse group => exact ⟨_, rfl, State.pending_ite s.pending_restartAging⟩
  | censusClearing => exact execCensusClearing_pending s
  | clearingComplete => exact ⟨_, rfl, State.pending_ite (s.pending_clearStep 127)⟩
  | refreshWalkTurn => exact execRefreshWalkTurn_pending s
  | meterEvent => exact execMeterEvent_pending s
  | scannerVisit => exact ⟨_, rfl, State.pending_ite (s.pending_visit _)⟩
  | inputFramingLost port => exact ⟨_, rfl, State.pending_ite rfl⟩
  | inputFramingGained port => exact ⟨_, rfl, State.pending_ite rfl⟩
  | stripSet source fields => exact ⟨_, rfl, State.pending_whenActing source (s.pending_actStripSet ..)⟩
  | place source fields => exact ⟨_, rfl, State.pending_whenActing source (s.pending_actPlace ..)⟩
  | muteGroup source group state => exact ⟨_, rfl, State.pending_whenActing source (s.pending_actMuteGroup ..)⟩
  | cue source fields => exact ⟨_, rfl, State.pending_whenActing source (s.pending_actCue ..)⟩
  | cueFlush source strip => exact ⟨_, rfl, State.pending_whenActing source (s.pending_actCueFlush ..)⟩
  | touch source strip touched => exact ⟨_, rfl, State.pending_whenActing source (s.pending_actTouch ..)⟩
  | fader source strip level => exact ⟨_, rfl, State.pending_whenActing source (s.pending_actFader ..)⟩
  | solo source strip state => exact ⟨_, rfl, State.pending_whenActing source (s.pending_actSolo ..)⟩
  | soloOn source strip =>
    exact ⟨_, rfl, State.pending_whenActing source (s.pending_soloAnnounced _ _ s.pending_learnKey)⟩
  | soloRefresh source strip =>
    exact ⟨_, rfl, State.pending_whenActing source (s.pending_soloAnnounced _ _ s.pending_learnKey)⟩
  | soloOff source strip =>
    exact ⟨_, rfl, State.pending_whenActing source (s.pending_soloAnnounced _ _ s.pending_removeKey)⟩
  | censusSweep source => exact ⟨_, rfl, State.pending_whenActing source s.pending_restartAging⟩
  | groupClaim source group strip =>
    exact ⟨_, rfl, State.pending_whenActing source (s.pending_announced _ _ _ s.pending_takeClaim)⟩
  | groupRelease source group strip =>
    exact ⟨_, rfl, State.pending_whenActing source (s.pending_announced _ _ _ s.pending_takeRelease)⟩
  | groupDelta source group strip change =>
    exact ⟨_, rfl, State.pending_whenActing source (s.pending_announced _ _ _ fun g k => s.pending_takeDelta g k _)⟩
  | captureStart source fields => exact ⟨_, rfl, State.pending_whenActing source (s.pending_actCaptureStart ..)⟩
  | captureStop source unit => exact ⟨_, rfl, State.pending_whenActing source (s.pending_actCaptureStop ..)⟩
  | captureSuspend source unit => exact ⟨_, rfl, State.pending_whenActing source (s.pending_actCaptureSuspend ..)⟩
  | captureResume source unit => exact ⟨_, rfl, State.pending_whenActing source (s.pending_actCaptureResume ..)⟩
  | captureClear source unit => exact ⟨_, rfl, State.pending_whenActing source (s.pending_actCaptureClear ..)⟩
  | outputSet source fields => exact ⟨_, rfl, State.pending_whenActing source (s.pending_actOutputSet ..)⟩
  | reportControl source fields => exact ⟨_, rfl, State.pending_whenActing source rfl⟩
  | queryStrip source object clear =>
    exact ⟨_, rfl, State.pending_whenActing source (s.pending_actQuery source 1#8 object clear)⟩
  | queryCues source object clear =>
    exact ⟨_, rfl, State.pending_whenActing source (s.pending_actQuery source 2#8 object clear)⟩
  | queryCensus source object clear =>
    exact ⟨_, rfl, State.pending_whenActing source (s.pending_actQuery source 3#8 object clear)⟩
  | queryGroup source object clear =>
    exact ⟨_, rfl, State.pending_whenActing source (s.pending_actQuery source 4#8 object clear)⟩
  | queryCapture source object clear =>
    exact ⟨_, rfl, State.pending_whenActing source (s.pending_actQuery source 5#8 object clear)⟩
  | queryAnchor source object clear =>
    exact ⟨_, rfl, State.pending_whenActing source (s.pending_actQuery source 6#8 object clear)⟩
  | queryCounters source object clear =>
    exact ⟨_, rfl, State.pending_whenActing source (s.pending_actQuery source 7#8 object clear)⟩
  | nodeReset source => exact ⟨_, rfl, State.pending_whenActing source rfl⟩
  | wordClockEdge edge => exact execWordClockEdge_pending s edge

end Sys2Proof.Machine
end

section
/-! O50: the outbound queue. What a message announces is its topic; an offered message meets at most one queued message on its
topic. -/

namespace Sys2Proof.Machine

open Sys2Proof

/-! ### What a message announces (R93 to R95) -/

/-- R93 to R95: what the messages that are coalesced announce: a strip's solo, a group's lead, or a change of its level. -/
inductive Topic where
  | solo (n : StripNo)
  | lead (g : GroupNo) (n : StripNo)
  | delta (g : GroupNo) (n : StripNo)

/-- Whether a queued message announces a topic. -/
def OutMsg.about : Topic → OutMsg → Bool
  | .solo n => OutMsg.isSolo n
  | .lead g n => OutMsg.isLead g n
  | .delta g n => OutMsg.isDelta g n

/-- The topic of a message, for the six kinds that have one. -/
def OutMsg.topic (m : OutMsg) : Option Topic :=
  match m.body with
  | .soloOn n | .soloRefresh n | .soloOff n => some (.solo n)
  | .claim g n | .release g n => some (.lead g n)
  | .delta g n _ => some (.delta g n)
  | _ => none

/-- What a queued message becomes when `m` is offered on its topic: a SOLO REFRESH leaves it, a GROUP DELTA is added into it, and
any other message replaces it. -/
def OutMsg.merged (m x : OutMsg) : OutMsg :=
  match m.body with
  | .soloRefresh _ => x
  | .delta _ _ change => x.addChange change
  | _ => m

section
variable {m x : OutMsg} {t : Topic}

theorem OutMsg.about_iff (t : Topic) (m : OutMsg) : m.about t = true ↔ m.topic = some t := by
  cases t <;> cases hb : m.body <;>
    simp [OutMsg.about, OutMsg.isSolo, OutMsg.isLead, OutMsg.isDelta, OutMsg.topic, hb]

theorem OutMsg.topic_addChange (change : Int) (x : OutMsg) : (x.addChange change).topic = x.topic := by
  unfold OutMsg.addChange
  split
  · rename_i h
    simp [OutMsg.topic, h]
  · rfl

/-- A message keeps its topic under what is offered on it. -/
theorem OutMsg.topic_merged (h : m.topic = x.topic) : (m.merged x).topic = x.topic := by
  unfold OutMsg.merged
  split
  · rfl
  · exact x.topic_addChange _
  · exact h

/-! ### Coalescing -/

theorem modifyFirst_id {α : Type} (p : α → Bool) (l : List α) : modifyFirst p id l = l := by
  induction l with
  | nil => rfl
  | cons a as ih => simp [modifyFirst, ih]

/-- A message on a topic is coalesced with the first queued one on it. -/
theorem coalesce_of_topic (h : m.topic = some t) (q : List OutMsg) :
    coalesce m q = if q.any (OutMsg.about t) then some (modifyFirst (OutMsg.about t) m.merged q) else none := by
  unfold OutMsg.topic at h
  split at h
  case h_2 n hb =>
    cases h
    have hkept : m.merged = id := funext fun x => by simp [OutMsg.merged, hb]
    rw [hkept, modifyFirst_id]
    simp [coalesce, hb, OutMsg.about]
  case h_7 => cases h
  all_goals
    rename_i hb
    cases h
    simp only [coalesce, hb, OutMsg.about]
    congr 3
    funext x
    simp only [OutMsg.merged, hb]

theorem coalesce_of_no_topic (h : m.topic = none) (q : List OutMsg) : coalesce m q = none := by
  unfold OutMsg.topic at h
  split at h
  case h_7 =>
    unfold coalesce
    split <;> simp_all
  all_goals cases h

/-- A message is not coalesced where the queue holds none like it. -/
theorem coalesce_eq_none_iff {q : List OutMsg} :
    coalesce m q = none ↔ ∀ t, m.topic = some t → ∀ y ∈ q, y.about t = false := by
  cases ht : m.topic with
  | none => simp [coalesce_of_no_topic ht]
  | some t => simp [coalesce_of_topic ht]

/-- A message is coalesced with the first like one in the queue. -/
theorem coalesce_of_like {front back : List OutMsg} (hm : m.topic = some t) (hx : x.about t = true)
    (hfront : ∀ y ∈ front, y.about t = false) :
    coalesce m (front ++ x :: back) = some (front ++ m.merged x :: back) := by
  rw [coalesce_of_topic hm, if_pos (by simp [hx]), modifyFirst_append _ _ _ _ _ hfront hx]

/-- R93 to R95: an offer that meets a like message changes it, in its place. -/
theorem State.offer_of_like {s : State} {front back : List OutMsg} (hq : s.message.outbound = front ++ x :: back)
    (hm : m.topic = some t) (hx : x.about t = true) (hfront : ∀ y ∈ front, y.about t = false) :
    s.offer m = { s with message.outbound := front ++ m.merged x :: back } :=
  State.offer_of_coalesce (hq ▸ coalesce_of_like hm hx hfront)

end

/-- Settles O50: the first like message by the kind of the offered one, and the tail by the room there is. -/
theorem offeredMessagesReplaceJoinOrDrop : Obligations.OfferedMessagesReplaceJoinOrDrop := by
  rintro m s q rfl
  refine ⟨fun front back x hq => ⟨fun n hx hfront => ⟨fun hm => ?_, fun hm => ?_⟩, fun g n hx hfront hm => ?_,
    fun g n change queued hx hfront hm => ?_⟩, fun hunlike => ?_⟩
  · rw [State.offer_of_like (t := .solo n) hq (by rcases hm with hm | hm <;> simp [OutMsg.topic, hm]) hx hfront]
    rcases hm with hm | hm <;> simp [OutMsg.merged, hm]
  · rw [State.offer_of_like (t := .solo n) hq (by simp [OutMsg.topic, hm]) hx hfront]
    simp [OutMsg.merged, hm, ← hq]
  · rw [State.offer_of_like (t := .lead g n) hq (by rcases hm with hm | hm <;> simp [OutMsg.topic, hm]) hx hfront]
    rcases hm with hm | hm <;> simp [OutMsg.merged, hm]
  · rw [State.offer_of_like (t := .delta g n) hq (by simp [OutMsg.topic, hm])
      ((OutMsg.about_iff _ x).mpr (by simp [OutMsg.topic, hx])) hfront]
    simp [OutMsg.merged, hm, OutMsg.addChange, hx, clamp]
  · have htail : coalesce m s.message.outbound = none := coalesce_eq_none_iff.mpr fun t ht y hy => by
      have hm := (OutMsg.about_iff t m).mpr ht
      cases t with
      | solo n => exact (hunlike y hy 0 n).1 hm
      | lead g n => exact (hunlike y hy g n).2.1 hm
      | delta g n => exact (hunlike y hy g n).2.2 hm
    exact ⟨State.offer_of_room htail, State.offer_of_full htail⟩

end Sys2Proof.Machine
end

section
/-! SUPPORT. What an operation makes of the outbound queue and the in-flight list: most do no more than offer messages (R92). -/

namespace Sys2Proof.Machine

open Sys2Proof

/-- R92 to R96: the queue after an offered message. -/
def offered (q : List OutMsg) (m : OutMsg) : List OutMsg :=
  match coalesce m q with
  | some q' => q'
  | none => if q.length < queueLimit then q ++ [m] else q

theorem State.outbound_offer (m : OutMsg) (s : State) : (s.offer m).message.outbound = offered s.message.outbound m := by
  unfold State.offer offered
  cases coalesce m s.message.outbound with
  | some q => rfl
  | none =>
    dsimp only
    split <;> rfl

/-- The outbound queue, the in-flight list and the start state: what R87 and R92 to R95 are of. -/
def State.mail (s : State) : List OutMsg × List InFlight × StartState :=
  (s.message.outbound, s.message.inFlight, s.clock.start)

/-- It stands with the Message Unit and the clock. -/
theorem State.mail_congr {s t : State} (hmessage : t.message = s.message) (hclock : t.clock = s.clock) : t.mail = s.mail := by
  rw [State.mail, hmessage, hclock]
  rfl

/-- From `s` to `t`, messages are offered one after another; the in-flight list and the start state stand. -/
structure State.Posts (s t : State) : Prop where
  queue : ∃ ms : List OutMsg, t.message.outbound = ms.foldl offered s.message.outbound
  inFlight : t.message.inFlight = s.message.inFlight
  start : t.clock.start = s.clock.start

/-! ### Posting -/

theorem State.Posts.of_mail {s t : State} (e : t.mail = s.mail) : s.Posts t := by
  simp only [State.mail, Prod.mk.injEq] at e
  obtain ⟨hqueue, hflight, hstart⟩ := e
  exact ⟨⟨[], hqueue⟩, hflight, hstart⟩

theorem State.Posts.refl (s : State) : s.Posts s := .of_mail rfl

theorem State.Posts.trans {s t r : State} (h : s.Posts t) (h' : t.Posts r) : s.Posts r where
  queue := by
    obtain ⟨ms, hms⟩ := h.queue
    obtain ⟨ms', hms'⟩ := h'.queue
    exact ⟨ms ++ ms', by rw [List.foldl_append, ← hms, hms']⟩
  inFlight := h'.inFlight.trans h.inFlight
  start := h'.start.trans h.start

/-- Posting after a change that leaves the queue, the in-flight list and the start state alone. -/
theorem State.Posts.after {s t r : State} (h : t.Posts r) (e : t.mail = s.mail) : s.Posts r := (State.Posts.of_mail e).trans h

/-- Posting before such a change. -/
theorem State.Posts.before {s t r : State} (e : r.mail = t.mail) (h : s.Posts t) : s.Posts r := h.trans (.of_mail e)

/-- A step under a condition, and otherwise nothing. -/
theorem State.Posts.ite {s t : State} {p : Prop} [Decidable p] (h : s.Posts t) : s.Posts (if p then t else s) := by
  split
  · exact h
  · exact .refl s

theorem State.posts_foldl {α : Type} {f : State → α → State} (hf : ∀ (t : State) (a : α), t.Posts (f t a)) (l : List α) (s : State) :
    s.Posts (l.foldl f s) := by
  induction l generalizing s with
  | nil => exact .refl s
  | cons a l ih => exact (hf s a).trans (ih _)

section
variable (s : State)

theorem State.posts_offer (m : OutMsg) : s.Posts (s.offer m) where
  queue := ⟨[m], s.outbound_offer m⟩
  inFlight := by rw [State.offer_eq]
  start := by rw [State.offer_eq]

theorem State.posts_announce (b : Body) : s.Posts (s.announce b) := s.posts_offer _

theorem State.posts_refuse (source : Member) (kind object : Byte) (reason : Reason) :
    s.Posts (s.refuse source kind object reason) := s.posts_offer _

/-! ### Commands by the object they name (R26, R100) -/

theorem State.posts_stripCommand (source : Member) (kind strip : Byte) {act : StripNo → State → State}
    (hact : ∀ n, s.Posts (act n s)) : s.Posts (s.stripCommand source kind strip act) := by
  unfold State.stripCommand
  split
  · exact hact _
  · exact s.posts_refuse ..

theorem State.posts_stripsCommand (source : Member) (kind strip : Byte) {act : StripNo → State → State}
    (hact : ∀ (n : StripNo) (t : State), t.Posts (act n t)) : s.Posts (s.stripsCommand source kind strip act) := by
  unfold State.stripsCommand
  split
  · exact State.posts_foldl (fun t n => hact n t) _ _
  · exact s.posts_stripCommand _ _ _ fun n => hact n s

theorem State.posts_unitCommand (source : Member) (kind unit : Byte) {act : UnitNo → State → State}
    (hact : ∀ u, s.Posts (act u s)) : s.Posts (s.unitCommand source kind unit act) := by
  unfold State.unitCommand
  split
  · exact hact _
  · exact s.posts_refuse ..

theorem State.posts_announced (source : Member) (group strip : Byte) {act : GroupNo → Key → State → State}
    (hact : ∀ g k, s.Posts (act g k s)) : s.Posts (s.announced source group strip act) := by
  unfold State.announced
  split
  · exact hact ..
  · exact .refl s

theorem State.posts_soloAnnounced (source : Member) (strip : Byte) {act : Key → State → State}
    (hact : ∀ k, s.Posts (act k s)) : s.Posts (s.soloAnnounced source strip act) := by
  unfold State.soloAnnounced
  split
  · exact hact _
  · exact .refl s

/-! ### The primitive updates -/

theorem State.mail_mapStrips (f : StripNo → Strip → Strip) : (s.mapStrips f).mail = s.mail :=
  State.mail_congr (s.mapStrips_message f) (s.mapStrips_clock f)

theorem State.mail_setStripEffective (n : StripNo) (length : Nat) (st : Strip) :
    (s.setStripEffective n length st).mail = s.mail := by
  unfold State.setStripEffective
  split <;> rfl

theorem State.mail_captureEdge (n : StripNo) (mark : Byte) : (s.captureEdge n mark).mail = s.mail := by
  rw [State.captureEdge_frame]
  rfl

theorem State.mail_applyDelta (g : GroupNo) (change : Int) : (s.applyDelta g change).mail = s.mail := by
  simp [State.mail, State.applyDelta]

theorem State.mail_judgeSolo : s.judgeSolo.mail = s.mail := by
  rw [State.judgeSolo_frame]
  rfl

theorem State.mail_soloChanged (n : StripNo) : (s.soloChanged n).mail = s.mail := by
  rw [State.soloChanged_frame]
  rfl

theorem State.mail_rotate : s.rotate.mail = s.mail := by
  rw [State.rotate_frame]
  rfl

theorem State.UnitsBecome.mail {s t : State} {c : UnitNo → CaptureUnit} (h : s.UnitsBecome t c) : t.mail = s.mail := by
  rw [h.frame]
  rfl

theorem State.TransportFrame.mail {s t : State} (h : s.TransportFrame t) : t.mail = s.mail := by
  rw [h.frame]
  rfl

theorem State.mail_stepAnchors (steps : List AnchorStep) : (s.stepAnchors steps).mail = s.mail :=
  State.mail_congr (State.latchAnchors_message ..) (State.latchAnchors_clock ..)

theorem State.mail_setGroup (g : GroupNo) (e : GroupEntry) : (s.setGroup g e).mail = s.mail := rfl

/-! ### Groups (chapter 8) -/

theorem State.posts_takeLead (g : GroupNo) (n : StripNo) : s.Posts (s.takeLead g n) := (State.posts_announce ..).after rfl

theorem State.posts_handOn (g : GroupNo) : s.Posts (s.handOn g) := by
  unfold State.handOn
  split
  · exact s.posts_takeLead g _
  · exact .refl s

theorem State.posts_releaseLead (g : GroupNo) (n : StripNo) : s.Posts (s.releaseLead g n) := by
  have hreleased (e : GroupEntry) : s.Posts ((s.setGroup g e).announce (.release g n)) := (State.posts_announce ..).after rfl
  exact (hreleased _).trans (State.posts_handOn ..)

theorem State.posts_releaseIfLead (group : Option GroupNo) (n : StripNo) : s.Posts (s.releaseIfLead group n) := by
  unfold State.releaseIfLead
  split
  · exact .ite (s.posts_releaseLead ..)
  · exact .refl s

theorem State.posts_groupTouch (n : StripNo) : s.Posts (s.groupTouch n) := by
  unfold State.groupTouch
  split
  · exact .ite (s.posts_takeLead _ n)
  · exact .refl s

theorem State.posts_handMove (n : StripNo) (change : Int) : s.Posts (s.handMove n change) := by
  unfold State.handMove
  split
  · exact .ite ((State.posts_announce ..).after (s.mail_applyDelta _ change))
  · exact .refl s

theorem State.posts_takeClaim (g : GroupNo) (k : Key) : s.Posts (s.takeClaim g k) := by
  unfold State.takeClaim
  split
  · exact .of_mail rfl
  · split
    · exact .of_mail rfl
    · exact .ite (.of_mail rfl)

theorem State.posts_takeRelease (g : GroupNo) (k : Key) : s.Posts (s.takeRelease g k) :=
  .ite ((State.posts_handOn ..).after rfl)

theorem State.posts_takeDelta (g : GroupNo) (k : Key) (change : Int) : s.Posts (s.takeDelta g k change) := by
  unfold State.takeDelta
  split
  · exact .of_mail ((State.mail_setGroup ..).trans (s.mail_applyDelta g change))
  · exact .of_mail rfl

theorem State.posts_ageGroup (g : GroupNo) : s.Posts (s.ageGroup g) := by
  unfold State.ageGroup
  split
  · exact .refl s
  · split
    · exact .of_mail rfl
    · split
      · exact (State.posts_handOn ..).after rfl
      · exact .of_mail rfl

theorem State.posts_claimRefresh (g : GroupNo) : s.Posts (s.claimRefresh g) := by
  unfold State.claimRefresh
  split
  · exact .ite (s.posts_announce _)
  · exact .refl s

/-! ### Solo and the Census (chapter 7) -/

theorem State.posts_soloStrip (n : StripNo) : s.Posts (s.soloStrip n) := by
  unfold State.soloStrip
  split
  · exact .refl s
  · exact .before (State.mail_soloChanged ..) ((State.posts_announce ..).after rfl)

theorem State.posts_unsoloStrip (n : StripNo) : s.Posts (s.unsoloStrip n) :=
  .ite (.before (State.mail_soloChanged ..) ((State.posts_announce ..).after rfl))

theorem State.posts_actSolo (source : Member) (strip state : Byte) : s.Posts (s.actSolo source strip state) := by
  refine s.posts_stripsCommand _ _ _ fun n t => ?_
  split
  · exact t.posts_soloStrip n
  · exact t.posts_unsoloStrip n

theorem State.posts_learnKey (k : Key) : s.Posts (s.learnKey k) := by
  have hlearned (t : State) (i : Fin 3) : (t.learnIn i k).mail = t.mail := by
    unfold State.learnIn
    dsimp only
    split <;> rfl
  exact .of_mail ((State.mail_judgeSolo _).trans ((hlearned ..).trans (hlearned ..)))

theorem State.posts_removeKey (k : Key) : s.Posts (s.removeKey k) := .of_mail (State.mail_judgeSolo _)

theorem State.posts_restartAging : s.Posts s.restartAging := by
  have hrotated (t : State) : t.rotateOrHold.mail = t.mail := by
    unfold State.rotateOrHold
    split
    · rfl
    · exact t.mail_rotate
  have hmarked (t : State) : t.markSoloed.mail = t.mail := by
    simp only [State.mail, State.markSoloed]
  have haged (t : State) : t.Posts t.agingEvent :=
    .before (hmarked _) ((State.posts_foldl State.posts_ageGroup _ _).after (hrotated t))
  exact (haged _).after rfl

theorem State.posts_clearStep (i : Fin 128) : s.Posts (s.clearStep i) := by
  unfold State.clearStep State.clearingDone
  dsimp only
  split
  · exact .of_mail rfl
  · split
    · exact .of_mail (State.mail_rotate _)
    · exact .of_mail rfl

theorem State.posts_takeMark : s.Posts s.takeMark := by
  unfold State.takeMark
  split
  · exact (State.posts_offer ..).after rfl
  · split
    · exact (State.posts_claimRefresh ..).after rfl
    · exact .refl s

/-! ### Strips, cues and faders (chapters 2, 3 and 6) -/

theorem State.posts_applyStripSet (f : StripSetFields) (n : StripNo) : s.Posts (s.applyStripSet f n) := by
  have hglide (t : State) : t.Posts (t.setGlideField f n) := .ite (.of_mail rfl)
  have hlink (t : State) : t.Posts (t.setLinkField f n) :=
    .ite ((State.posts_releaseIfLead ..).after rfl)
  have hmode (t : State) : t.Posts (t.setModeField f n) := by
    unfold State.setModeField
    split
    · refine .ite ?_
      dsimp only
      split
      · exact (State.posts_releaseIfLead ..).after rfl
      · exact .of_mail rfl
    · exact .refl t
  have hfields := ((hglide s).trans (hlink _)).trans (hmode _)
  unfold State.applyStripSet
  dsimp only
  split <;> exact hfields.trans (.of_mail rfl)

theorem State.posts_actStripSet (source : Member) (f : StripSetFields) : s.Posts (s.actStripSet source f) := by
  unfold State.actStripSet
  split
  · exact s.posts_refuse ..
  · exact s.posts_stripsCommand _ _ _ fun n t => t.posts_applyStripSet f n

theorem State.posts_actMuteGroup (source : Member) (group state : Byte) : s.Posts (s.actMuteGroup source group state) := by
  unfold State.actMuteGroup
  split
  · exact .of_mail (State.mail_mapStrips ..)
  · exact s.posts_refuse ..

theorem State.mail_commit (n : StripNo) (taps : List Tap) : (s.commit n taps).mail = s.mail := by
  unfold State.commit
  dsimp only
  split
  · rfl
  · split <;> rfl

theorem State.posts_actPlace (source : Member) (f : PlaceFields) : s.Posts (s.actPlace source f) := by
  unfold State.actPlace
  split
  · exact s.posts_refuse ..
  · split
    · unfold State.takePlace
      dsimp only
      split
      · exact .of_mail (State.mail_commit ..)
      · split
        · exact .of_mail rfl
        · exact .of_mail (State.mail_commit ..)
    · exact (State.posts_refuse ..).after rfl

theorem State.posts_actCue (source : Member) (f : CueFields) : s.Posts (s.actCue source f) := by
  have hoffered (n : StripNo) (c : Cue) : s.Posts (s.offerCueTo n c) := .of_mail (by rw [State.offerCueTo_frame]; rfl)
  refine s.posts_stripCommand _ _ _ fun n => ?_
  unfold State.takeCue
  split
  · split
    · exact .of_mail rfl
    · split
      · exact .of_mail rfl
      · exact hoffered ..
  · exact hoffered ..

theorem State.posts_actCueFlush (source : Member) (strip : Byte) : s.Posts (s.actCueFlush source strip) :=
  s.posts_stripsCommand _ _ _ fun _ _ => .of_mail rfl

theorem State.posts_touchOn (n : StripNo) : s.Posts (s.touchOn n) := by
  unfold State.touchOn
  dsimp only
  split
  · exact .refl s
  · split
    · exact .of_mail (State.mail_captureEdge ..)
    · exact .before (State.mail_captureEdge ..) ((State.posts_groupTouch ..).after rfl)

theorem State.posts_touchOff (n : StripNo) : s.Posts (s.touchOff n) := by
  have hedged (length : Nat) (st : Strip) : s.Posts (s.setStripEffective n length st) :=
    .of_mail (s.mail_setStripEffective ..)
  refine .ite (State.Posts.trans ?_ (.of_mail (State.mail_captureEdge ..)))
  split
  · exact hedged ..
  · exact (hedged ..).trans (State.posts_releaseIfLead ..)

theorem State.posts_actTouch (source : Member) (strip touched : Byte) : s.Posts (s.actTouch source strip touched) := by
  refine s.posts_stripCommand _ _ _ fun n => ?_
  split
  · exact s.posts_touchOn n
  · exact s.posts_touchOff n

theorem State.posts_actFader (source : Member) (strip : Byte) (level : BitVec 16) :
    s.Posts (s.actFader source strip level) := by
  refine s.posts_stripCommand _ _ _ fun n => ?_
  unfold State.moveFader
  split
  · exact .refl s
  · exact (State.posts_handMove ..).after (s.mail_setStripEffective ..)

/-! ### Capture units (chapter 9) -/

theorem State.mail_releaseBinding (u : UnitNo) : (s.releaseBinding u).mail = s.mail := by
  rw [State.releaseBinding_eq]
  rfl

theorem State.posts_endDrain (u : UnitNo) : s.Posts (s.endDrain u) := by
  unfold State.endDrain
  dsimp only
  split
  · exact .of_mail rfl
  · split
    · exact .of_mail rfl
    · split
      · exact (State.posts_offer ..).after rfl
      · exact .of_mail rfl

theorem State.posts_endEmpty (u : UnitNo) (conditions : Byte) : s.Posts (s.endEmpty u conditions) :=
  (State.posts_endDrain ..).after (State.mail_releaseBinding ..)

theorem State.posts_actCaptureStart (source : Member) (f : CaptureStartFields) : s.Posts (s.actCaptureStart source f) := by
  have harmed (u : UnitNo) (settings : CaptureSettings) : s.Posts (s.startArmed u settings) := by
    unfold State.startArmed
    dsimp only
    split
    · exact .of_mail (State.enterWriting_becomes ..).mail
    · exact .of_mail rfl
  unfold State.actCaptureStart
  split
  · split
    · exact s.posts_refuse ..
    · split
      · exact s.posts_refuse ..
      · split
        · exact (State.posts_endDrain ..).after rfl
        · exact harmed ..
  · exact s.posts_refuse ..

theorem State.posts_actCaptureStop (source : Member) (unit : Byte) : s.Posts (s.actCaptureStop source unit) := by
  refine s.posts_unitCommand _ _ _ fun u => ?_
  unfold State.stopUnit
  split
  case h_1 | h_2 => exact .of_mail (State.finish_becomes ..).mail
  · exact s.posts_endEmpty ..
  all_goals exact s.posts_refuse ..

theorem State.posts_actCaptureSuspend (source : Member) (unit : Byte) : s.Posts (s.actCaptureSuspend source unit) := by
  refine s.posts_unitCommand _ _ _ fun u => ?_
  unfold State.suspendUnit
  split
  · exact .of_mail rfl
  · exact s.posts_refuse ..

theorem State.posts_actCaptureResume (source : Member) (unit : Byte) : s.Posts (s.actCaptureResume source unit) := by
  refine s.posts_unitCommand _ _ _ fun u => ?_
  unfold State.resumeUnit
  split
  · exact .of_mail rfl
  · exact s.posts_refuse ..

theorem State.posts_actCaptureClear (source : Member) (unit : Byte) : s.Posts (s.actCaptureClear source unit) := by
  refine s.posts_unitCommand _ _ _ fun u => ?_
  unfold State.clearUnit
  split
  case h_4 => exact .of_mail (State.mail_releaseBinding ..)
  case h_5 | h_6 => exact .of_mail rfl
  all_goals exact s.posts_endEmpty ..

theorem State.posts_offerHeldEnd (u : UnitNo) : s.Posts (s.offerHeldEnd u) := by
  refine .ite ?_
  split
  · exact (State.posts_offer ..).after rfl
  · exact .refl s

theorem State.posts_pack (u : UnitNo) : s.Posts (s.pack u) := by
  unfold State.pack
  dsimp only
  exact (State.posts_offer ..).after rfl

theorem State.posts_packingTurn (u : UnitNo) : s.Posts (s.packingTurn u) := by
  have hpacked (t : State) : t.Posts (if t.packDue (t.captureUnit u) then t.pack u else t) :=
    .ite (t.posts_pack u)
  have hwork (t : State) : t.Posts (t.turnWork u) := by
    unfold State.turnWork
    split
    · exact t.posts_offerHeldEnd u
    · exact (hpacked t).trans (.ite (State.posts_endDrain ..))
  exact (hwork _).after rfl

/-! ### Outputs, reports and queries (chapters 4, 5 and 10) -/

theorem State.posts_actOutputSet (source : Member) (f : OutputSetFields) : s.Posts (s.actOutputSet source f) := by
  unfold State.actOutputSet
  split
  · exact .of_mail rfl
  · split
    · exact s.posts_refuse ..
    · split
      · exact .of_mail rfl
      · exact s.posts_refuse ..

theorem State.posts_meterReports : s.Posts s.meterReports := by
  have hstrips (t : State) (b : Nat) : t.Posts (t.stripMeter b) :=
    .ite (.before (State.mail_mapStrips ..) (t.posts_offer _))
  have hanchors (t : State) (b : Nat) : t.Posts (t.anchorMeter b) := .ite ((t.posts_offer _).trans (.of_mail rfl))
  exact (State.posts_foldl hstrips _ _).trans (State.posts_foldl hanchors _ _)

theorem State.posts_visit (src : SourceNo) : s.Posts (s.visit src) := .ite ((s.posts_offer _).trans (.of_mail rfl))

theorem State.posts_answer (source : Member) (item : QueryItem) (object : Byte) (shares : List ReplyShare)
    {after : State → State} (hafter : ∀ t, (after t).mail = t.mail) :
    s.Posts (s.answer source item object shares after) := by
  unfold State.answer
  split
  · exact s.posts_refuse ..
  · exact (State.posts_foldl (fun t _ => t.posts_offer _) _ _).trans (.of_mail (hafter _))

/-- R98: a query of any item, its object named or not. -/
theorem State.posts_actQuery (source : Member) (item object clear : Byte) : s.Posts (s.actQuery source item object clear) := by
  have hanswered (i : QueryItem) (shares : List ReplyShare) : s.Posts (s.answer source i object shares id) :=
    s.posts_answer _ _ _ _ fun _ => rfl
  have hrefused : s.Posts (s.refuseQuery source object) := s.posts_refuse ..
  unfold State.actQuery State.actQueryStrip State.actQueryCues State.actQueryGroup State.actQueryCapture
    State.actQueryAnchor
  split
  case h_3 => exact hanswered ..
  case h_7 =>
    refine s.posts_answer _ _ _ _ fun t => ?_
    split <;> rfl
  case h_8 => exact hrefused
  all_goals
    split
    · exact hanswered ..
    · exact hrefused

/-! ### Periods and samples (chapters 1, 3, 4 and 11) -/

theorem State.mail_begun : s.begun.mail = s.mail := by
  rw [State.begun_eq]
  rfl

theorem State.mail_processSamples (samples : List Sample) : (s.begun.processSamples samples).mail = s.mail := by
  rw [State.processSamples_eq]
  exact s.mail_begun

theorem State.mail_takeReference (position : Position) (rolling valid : Bool) :
    (s.takeReference position rolling valid).mail = s.mail := by
  have hfaulted : (if valid then s else s.latchNode .positionFault).mail = s.mail := by
    split <;> rfl
  exact (State.moved_frame ..).mail.trans hfaulted

theorem State.mail_handOffs : s.handOffs.mail = s.mail := by
  unfold State.handOffs
  split
  · exact State.mail_stepAnchors ..
  · rfl

theorem State.mail_processOutputs : s.processOutputs.mail = s.mail := State.mail_stepAnchors ..

theorem State.mail_closePeriod : s.closePeriod.mail = s.mail := by
  unfold State.closePeriod
  split <;> rfl

end

end Sys2Proof.Machine
end

section
/-! O55: every command keeps the outbound queue and the in-flight list sound (R87, R92 to R95). -/

namespace Sys2Proof.Machine

open Sys2Proof

/-! ### A sound queue -/

/-- R92 to R95: at most 32 messages, and at most one on each topic. -/
structure QueueKept (q : List OutMsg) : Prop where
  length : q.length ≤ 32
  single : ∀ t : Topic, q.countP (OutMsg.about t) ≤ 1

section
variable {q : List OutMsg}

theorem QueueKept.of_sublist {q' : List OutMsg} (h : QueueKept q) (e : q'.Sublist q) : QueueKept q' where
  length := e.length_le.trans h.length
  single := fun t => e.countP_le.trans (h.single t)

theorem OutMsg.about_eq_of_topic {x y : OutMsg} (h : x.topic = y.topic) (t : Topic) : x.about t = y.about t := by
  rw [Bool.eq_iff_iff, OutMsg.about_iff, OutMsg.about_iff, h]

theorem countP_modifyFirst {α : Type} {p r : α → Bool} {f : α → α} (hf : ∀ x, p x = true → r (f x) = r x) (l : List α) :
    (modifyFirst p f l).countP r = l.countP r := by
  induction l with
  | nil => rfl
  | cons a as ih =>
    unfold modifyFirst
    split
    · rename_i ha
      rw [List.countP_cons, List.countP_cons, hf a ha]
    · rw [List.countP_cons, List.countP_cons, ih]

/-- A message merged into the one on its topic changes no count. -/
theorem QueueKept.merge {m : OutMsg} {t : Topic} (h : QueueKept q) (hm : m.topic = some t) :
    QueueKept (modifyFirst (OutMsg.about t) m.merged q) where
  length := (modifyFirst_length ..).trans_le h.length
  single := fun u => by
    rw [countP_modifyFirst fun x hx => ?_]
    · exact h.single u
    · have hx' : m.topic = x.topic := hm.trans ((OutMsg.about_iff t x).mp hx).symm
      exact OutMsg.about_eq_of_topic (OutMsg.topic_merged hx') u

/-- A message joins the tail where none is on its topic. -/
theorem QueueKept.append {m : OutMsg} (h : QueueKept q) (hroom : q.length < 32)
    (hunlike : ∀ t, m.topic = some t → ∀ y ∈ q, y.about t = false) : QueueKept (q ++ [m]) where
  length := by simpa using hroom
  single := fun t => by
    rw [List.countP_append, List.countP_singleton]
    split
    · rename_i hm
      have hnone : q.countP (OutMsg.about t) = 0 :=
        List.countP_eq_zero.mpr fun y hy => by simp [hunlike t ((OutMsg.about_iff t m).mp hm) y hy]
      omega
    · exact h.single t

/-- R92 to R96: an offer leaves at most one message on each topic. -/
theorem QueueKept.offered (h : QueueKept q) (m : OutMsg) : QueueKept (offered q m) := by
  unfold Machine.offered
  split
  · rename_i q' hq'
    cases ht : m.topic with
    | none =>
      rw [coalesce_of_no_topic ht] at hq'
      cases hq'
    | some t =>
      rw [coalesce_of_topic ht, Option.ite_none_right_eq_some] at hq'
      cases hq'.2
      exact h.merge ht
  · rename_i hnone
    split
    · exact h.append ‹_› (coalesce_eq_none_iff.mp hnone)
    · exact h

end

/-! ### What keeps the queue and the list sound -/

/-- `State.QueuesSound` by its two lists. -/
structure State.QueuesKept (s : State) : Prop where
  queue : QueueKept s.message.outbound
  flight : s.message.inFlight.length ≤ 8
  idle : s.clock.start ≠ .joined → s.message.inFlight = []

theorem State.queuesKept_iff (s : State) : s.QueuesKept ↔ s.QueuesSound := by
  constructor
  · rintro ⟨⟨length, single⟩, flight, idle⟩
    exact ⟨length, fun n => single (.solo n), fun g n => single (.lead g n), fun g n => single (.delta g n), flight, idle⟩
  · rintro ⟨length, solo, lead, delta, flight, idle⟩
    refine ⟨⟨length, fun t => ?_⟩, flight, idle⟩
    cases t with
    | solo n => exact solo n
    | lead g n => exact lead g n
    | delta g n => exact delta g n

/-- An empty queue and an empty list, as resets leave them. -/
theorem State.QueuesKept.of_empty {t : State} (hqueue : t.message.outbound = []) (hflight : t.message.inFlight = []) :
    t.QueuesKept where
  queue := hqueue ▸ ⟨by simp, by simp⟩
  flight := by simp [hflight]
  idle := fun _ => hflight

section
variable {s : State} (h : s.QueuesKept)
include h

/-- Messages and entries taken away. -/
theorem State.QueuesKept.of_sublist {t : State} (hqueue : t.message.outbound.Sublist s.message.outbound)
    (hflight : t.message.inFlight.Sublist s.message.inFlight)
    (hidle : t.clock.start ≠ .joined → t.message.inFlight = []) : t.QueuesKept where
  queue := h.queue.of_sublist hqueue
  flight := hflight.length_le.trans h.flight
  idle := hidle

/-- In-flight entries retired. -/
theorem State.QueuesKept.retire {t : State} (hqueue : t.message.outbound = s.message.outbound)
    (hflight : t.message.inFlight.Sublist s.message.inFlight) (hstart : t.clock.start = s.clock.start) : t.QueuesKept :=
  h.of_sublist (hqueue ▸ .refl _) hflight fun ht => List.sublist_nil.mp (h.idle (hstart ▸ ht) ▸ hflight)

/-- A change of the start state, to JOINED or from a state that is not. -/
theorem State.QueuesKept.withStart {t : State} (hqueue : t.message.outbound = s.message.outbound)
    (hflight : t.message.inFlight = s.message.inFlight) (hstart : t.clock.start ≠ .joined → s.clock.start ≠ .joined) :
    t.QueuesKept :=
  h.of_sublist (hqueue ▸ .refl _) (hflight ▸ .refl _) fun ht => hflight.trans (h.idle (hstart ht))

/-- Messages offered. -/
theorem State.QueuesKept.of_posts {t : State} (e : s.Posts t) : t.QueuesKept := by
  have hoffered (ms : List OutMsg) {q : List OutMsg} (hq : QueueKept q) : QueueKept (ms.foldl offered q) := by
    induction ms generalizing q with
    | nil => exact hq
    | cons m ms ih => exact ih (hq.offered m)
  obtain ⟨ms, hms⟩ := e.queue
  exact ⟨hms ▸ hoffered ms h.queue, e.inFlight ▸ h.flight, fun ht => e.inFlight.trans (h.idle (e.start ▸ ht))⟩

theorem State.QueuesKept.of_mail {t : State} (e : t.mail = s.mail) : t.QueuesKept := h.of_posts (.of_mail e)

/-- A step under a condition, and otherwise nothing. -/
theorem State.QueuesKept.ite {t : State} {p : Prop} [Decidable p] (ht : p → t.QueuesKept) :
    (if p then t else s).QueuesKept := by
  split
  · exact ht ‹_›
  · exact h

/-! ### The in-flight list (R87 to R90) -/

omit h in
theorem State.mail_loseEntries (n : Nat) (s : State) : (s.loseEntries n).mail = s.mail := by
  induction n generalizing s with
  | zero => rfl
  | succ n ih => exact ih _

theorem State.QueuesKept.loseEntries (n : Nat) : (s.loseEntries n).QueuesKept := h.of_mail (State.mail_loseEntries ..)

/-- R88: a returning message takes entries away. -/
theorem State.QueuesKept.ownReturn (kind : Byte) : (s.ownReturn kind).QueuesKept := by
  unfold State.ownReturn
  split
  · rename_i i _
    have hdropped : ({ s with message.inFlight := s.message.inFlight.drop (i + 1) } : State).QueuesKept :=
      h.retire rfl (List.drop_sublist ..) rfl
    exact hdropped.loseEntries i
  · split
    · exact h
    · exact h.of_mail rfl

theorem State.QueuesKept.timeoutEntries : s.timeoutEntries.QueuesKept := by
  have hkept : ({ s with message.inFlight := s.message.inFlight.filter fun e => !s.timedOut e } : State).QueuesKept :=
    h.retire rfl List.filter_sublist rfl
  exact hkept.loseEntries _

/-- R90: an insertion is taken while JOINED and with fewer than 8 entries in flight. -/
theorem State.QueuesKept.insert : s.insert.QueuesKept := by
  unfold State.insert
  split
  · rename_i e m hinsertable
    unfold State.insertable at hinsertable
    split at hinsertable
    · rw [Option.ite_none_right_eq_some] at hinsertable
      obtain ⟨⟨hjoined, -, -, hsize⟩, -⟩ := hinsertable
      have hstart : s.clock.start = .joined := by simpa [State.joined] using hjoined
      exact ⟨h.queue.of_sublist (List.drop_sublist ..), by simpa [flightSize] using hsize, fun hnot => absurd hstart hnot⟩
    · cases hinsertable
  · exact h

theorem State.QueuesKept.begun_emit : s.begun.emit.QueuesKept := by
  have hinserted := (h.of_mail s.mail_begun).insert
  exact (hinserted.of_mail (State.mail_handOffs _)).of_mail rfl

/-! ### Resets, lock and joining (R168 to R171) -/

omit h in
theorem State.nodeReset_queuesKept (s : State) : s.nodeReset.QueuesKept := .of_empty rfl rfl

/-- R170: a loss of lock keeps the queue and empties the list. -/
theorem State.QueuesKept.loseLock : s.loseLock.QueuesKept := h.of_sublist (.refl _) (List.nil_sublist _) fun _ => rfl

theorem State.QueuesKept.gainLock (hstart : s.clock.start = .unlocked) : s.gainLock.QueuesKept :=
  h.withStart rfl rfl fun _ => by simp [hstart]

theorem State.QueuesKept.lockEdge (hstart : s.clock.start = .unlocked) : s.lockEdge.QueuesKept := by
  unfold State.lockEdge
  split
  · exact h.of_mail rfl
  · exact h.gainLock hstart

theorem State.QueuesKept.profileTaken (l : ProfileLoad) (hstart : s.clock.start = .loading) :
    (s.profileTaken l).QueuesKept := by
  rw [State.profileTaken_eq]
  exact h.withStart rfl rfl fun _ => by simp [hstart]

theorem State.QueuesKept.countGood : s.countGood.QueuesKept := by
  unfold State.countGood
  split
  · exact h.of_mail rfl
  · exact h.withStart rfl rfl fun hnot => absurd rfl hnot

/-! ### Messages and arrivals (R3, R82 to R89) -/

/-- R85: a message acted on, by its kind. -/
theorem State.QueuesKept.act (kind : Byte) (source : Member) (p : List Byte) : (s.act kind source p).QueuesKept := by
  unfold State.act
  split
  case h_18 => exact s.nodeReset_queuesKept
  all_goals refine h.of_posts ?_
  · exact s.posts_actStripSet ..
  · exact s.posts_actPlace ..
  · exact s.posts_actCue ..
  · exact s.posts_actCueFlush ..
  · exact s.posts_actTouch ..
  · exact s.posts_actFader ..
  · exact s.posts_actSolo ..
  · exact s.posts_actMuteGroup ..
  · exact s.posts_actCaptureStart ..
  · exact s.posts_actCaptureStop ..
  · exact s.posts_actCaptureSuspend ..
  · exact s.posts_actCaptureResume ..
  · exact s.posts_actCaptureClear ..
  · exact s.posts_actOutputSet ..
  · exact s.posts_actQuery ..
  · exact .of_mail rfl
  · exact s.posts_restartAging
  · exact s.posts_announced _ _ _ s.posts_takeClaim
  · exact s.posts_announced _ _ _ s.posts_takeRelease
  · exact s.posts_announced _ _ _ fun g k => s.posts_takeDelta g k _
  · exact s.posts_soloAnnounced _ _ s.posts_learnKey
  · exact s.posts_soloAnnounced _ _ s.posts_learnKey
  · exact s.posts_soloAnnounced _ _ s.posts_removeKey
  · exact .refl s

theorem State.QueuesKept.takeSlot (c : SlotCase) : (s.takeSlot c).QueuesKept := by
  unfold State.takeSlot
  split
  · exact h
  · exact h.ite fun _ => h.ownReturn _
  · exact h.of_mail rfl
  · exact h.ite fun _ => h.act ..

theorem State.QueuesKept.arrival (bytes : List Byte) : (s.arrival bytes).QueuesKept := by
  unfold State.arrival
  split
  · exact h.of_mail rfl
  · split
    · have hplaced : (s.placeArrival bytes).QueuesKept := h.of_mail rfl
      have htaken := hplaced.takeSlot (classify s.clock.member (frameSlot bytes))
      exact htaken.ite fun _ => htaken.countGood
    · exact h.of_mail rfl

/-! ### Commands -/

theorem execWordClockEdge_queuesKept (e : Edge) : ∃ t, execWordClockEdge e s = .next t ∧ t.QueuesKept := by
  refine ⟨_, rfl, ?_⟩
  split
  case h_1 | h_2 => exact h
  case h_3 hstart => exact h.lockEdge hstart
  case h_4 | h_5 => exact h.of_mail rfl
  case h_6 | h_7 => exact h.of_mail ((State.mail_closePeriod _).trans s.mail_begun)
  all_goals exact h.loseLock

theorem execRefreshWalkTurn_queuesKept : ∃ t, execRefreshWalkTurn s = .next t ∧ t.QueuesKept := by
  have hturned : ({ s with clock.taken.walked := true } : State).QueuesKept := h.of_mail rfl
  exact ⟨_, rfl, h.ite fun _ => hturned.ite fun _ => hturned.of_posts (State.posts_takeMark _)⟩

theorem execMeterEvent_queuesKept : ∃ t, execMeterEvent s = .next t ∧ t.QueuesKept := by
  have hrestarted : ({ s with reports.meterCount := 0 } : State).QueuesKept := h.of_mail rfl
  exact ⟨_, rfl, h.ite fun _ => hrestarted.ite fun _ => hrestarted.of_posts (State.posts_meterReports _)⟩

theorem execCensusClearing_queuesKept : ∃ t, execCensusClearing s = .next t ∧ t.QueuesKept := by
  refine ⟨_, rfl, ?_⟩
  split
  · exact h.ite fun _ => h.of_posts (s.posts_clearStep _)
  · exact h

/-- Every command answers a state with its queue and its in-flight list sound. -/
theorem exec_queuesKept (c : Instr) : ∃ t, exec c s = .next t ∧ t.QueuesKept := by
  have hposts {t : State} {p : Prop} [Decidable p] (e : s.Posts t) : (if p then t else s).QueuesKept :=
    h.ite fun _ => h.of_posts e
  have hact {act : State → State} (source : Member) (e : s.Posts (act s)) : (s.whenActing source act).QueuesKept :=
    h.ite fun _ => h.of_posts e
  cases c with
  | powerReset => exact ⟨_, rfl, .of_empty rfl rfl⟩
  | powerResetRelease straps => exact ⟨_, rfl, h.ite fun _ => .of_empty rfl rfl⟩
  | profileReadEnd memory => exact ⟨_, rfl, h.ite fun hstart => h.profileTaken _ hstart⟩
  | lockGained => exact ⟨_, rfl, h.ite fun hlock => h.gainLock hlock.1⟩
  | lossOfLock => exact ⟨_, rfl, h.ite fun _ => h.loseLock⟩
  | joining frame => exact ⟨_, rfl, h.ite fun _ => h.arrival frame⟩
  | quietWindowEnd => exact ⟨_, rfl, hposts (.of_mail rfl)⟩
  | frameArrival frame => exact ⟨_, rfl, h.ite fun _ => h.arrival frame⟩
  | frameEmission => exact ⟨_, rfl, h.ite fun _ => h.begun_emit⟩
  | faultBegun anchor => exact ⟨_, rfl, h.ite fun _ => h.begun_emit⟩
  | runCompleted anchor => exact ⟨_, rfl, h.ite fun _ => h.begun_emit⟩
  | realignSwitch anchor => exact ⟨_, rfl, hposts (.of_mail s.mail_processOutputs)⟩
  | enterRunning anchor => exact ⟨_, rfl, hposts (.of_mail s.mail_processOutputs)⟩
  | insertion => exact ⟨_, rfl, h.insert⟩
  | inflightTimeout => exact ⟨_, rfl, h.timeoutEntries⟩
  | historyAdvance => exact ⟨_, rfl, hposts (.of_mail s.mail_begun)⟩
  | sampleProcessing samples => exact ⟨_, rfl, hposts (.of_mail (s.mail_processSamples samples))⟩
  | swapCompletion strip samples => exact ⟨_, rfl, hposts (.of_mail (s.mail_processSamples samples))⟩
  | outputProcessing => exact ⟨_, rfl, hposts (.of_mail s.mail_processOutputs)⟩
  | referenceEvent position rolling valid => exact ⟨_, rfl, hposts (.of_mail (s.mail_takeReference ..))⟩
  | keepalive unit position => exact ⟨_, rfl, hposts (.of_mail (s.mail_takeReference ..))⟩
  | packingTurn unit => exact ⟨_, rfl, hposts (s.posts_packingTurn unit)⟩
  | drainEnd unit => exact ⟨_, rfl, hposts (s.posts_packingTurn unit)⟩
  | heldEndOffer unit => exact ⟨_, rfl, hposts (s.posts_packingTurn unit)⟩
  | agingEvent => exact ⟨_, rfl, hposts s.posts_restartAging⟩
  | leadLapse group => exact ⟨_, rfl, hposts s.posts_restartAging⟩
  | censusClearing => exact execCensusClearing_queuesKept h
  | clearingComplete => exact ⟨_, rfl, hposts (s.posts_clearStep 127)⟩
  | refreshWalkTurn => exact execRefreshWalkTurn_queuesKept h
  | meterEvent => exact execMeterEvent_queuesKept h
  | scannerVisit => exact ⟨_, rfl, h.ite fun _ => (h.of_posts (s.posts_visit _)).of_mail rfl⟩
  | inputFramingLost port => exact ⟨_, rfl, hposts (.of_mail rfl)⟩
  | inputFramingGained port => exact ⟨_, rfl, hposts (.of_mail rfl)⟩
  | stripSet source fields => exact ⟨_, rfl, hact source (s.posts_actStripSet ..)⟩
  | place source fields => exact ⟨_, rfl, hact source (s.posts_actPlace ..)⟩
  | muteGroup source group state => exact ⟨_, rfl, hact source (s.posts_actMuteGroup ..)⟩
  | cue source fields => exact ⟨_, rfl, hact source (s.posts_actCue ..)⟩
  | cueFlush source strip => exact ⟨_, rfl, hact source (s.posts_actCueFlush ..)⟩
  | touch source strip touched => exact ⟨_, rfl, hact source (s.posts_actTouch ..)⟩
  | fader source strip level => exact ⟨_, rfl, hact source (s.posts_actFader ..)⟩
  | solo source strip state => exact ⟨_, rfl, hact source (s.posts_actSolo ..)⟩
  | soloOn source strip => exact ⟨_, rfl, hact source (s.posts_soloAnnounced _ _ s.posts_learnKey)⟩
  | soloRefresh source strip => exact ⟨_, rfl, hact source (s.posts_soloAnnounced _ _ s.posts_learnKey)⟩
  | soloOff source strip => exact ⟨_, rfl, hact source (s.posts_soloAnnounced _ _ s.posts_removeKey)⟩
  | censusSweep source => exact ⟨_, rfl, hact source s.posts_restartAging⟩
  | groupClaim source group strip => exact ⟨_, rfl, hact source (s.posts_announced _ _ _ s.posts_takeClaim)⟩
  | groupRelease source group strip => exact ⟨_, rfl, hact source (s.posts_announced _ _ _ s.posts_takeRelease)⟩
  | groupDelta source group strip change =>
    exact ⟨_, rfl, hact source (s.posts_announced _ _ _ fun g k => s.posts_takeDelta g k _)⟩
  | captureStart source fields => exact ⟨_, rfl, hact source (s.posts_actCaptureStart ..)⟩
  | captureStop source unit => exact ⟨_, rfl, hact source (s.posts_actCaptureStop ..)⟩
  | captureSuspend source unit => exact ⟨_, rfl, hact source (s.posts_actCaptureSuspend ..)⟩
  | captureResume source unit => exact ⟨_, rfl, hact source (s.posts_actCaptureResume ..)⟩
  | captureClear source unit => exact ⟨_, rfl, hact source (s.posts_actCaptureClear ..)⟩
  | outputSet source fields => exact ⟨_, rfl, hact source (s.posts_actOutputSet ..)⟩
  | reportControl source fields => exact ⟨_, rfl, hact source (.of_mail rfl)⟩
  | queryStrip source object clear => exact ⟨_, rfl, hact source (s.posts_actQuery source 1#8 object clear)⟩
  | queryCues source object clear => exact ⟨_, rfl, hact source (s.posts_actQuery source 2#8 object clear)⟩
  | queryCensus source object clear => exact ⟨_, rfl, hact source (s.posts_actQuery source 3#8 object clear)⟩
  | queryGroup source object clear => exact ⟨_, rfl, hact source (s.posts_actQuery source 4#8 object clear)⟩
  | queryCapture source object clear => exact ⟨_, rfl, hact source (s.posts_actQuery source 5#8 object clear)⟩
  | queryAnchor source object clear => exact ⟨_, rfl, hact source (s.posts_actQuery source 6#8 object clear)⟩
  | queryCounters source object clear => exact ⟨_, rfl, hact source (s.posts_actQuery source 7#8 object clear)⟩
  | nodeReset source => exact ⟨_, rfl, h.ite fun _ => s.nodeReset_queuesKept⟩
  | wordClockEdge edge => exact execWordClockEdge_queuesKept h edge

end

/-- Settles O55: an offer leaves at most one message on each topic, and most commands only offer messages. The others take
messages or entries away, empty both lists, or insert, which is done while JOINED and with room in the in-flight list. -/
theorem everyStepKeepsTheQueuesSound : Obligations.EveryStepKeepsTheQueuesSound := fun s t h e =>
  t.queuesKept_iff.mp (step_keeps (fun _ _ h => h.of_mail rfl) (fun _ h c => exec_queuesKept h c)
    (s.queuesKept_iff.mpr h) e)

end Sys2Proof.Machine
end

section
/-! O14, O15: good arrivals while PASSING, and the one that joins. -/

namespace Sys2Proof.Machine

open Sys2Proof

/-! ### The slot of an arrival while PASSING (R82, R83, R86) -/

/-- R82 case 2: a message of this node. -/
theorem classify_own {member : Member} {m : Message} (h : m.source = memberByte member) :
    classify member (some m) = .own m := by
  simp [classify, h]

/-- R83, R86: all that comes of a slot while the node is not JOINED is the count of a stray. -/
def State.strayCounted (c : SlotCase) (s : State) : State :=
  match c with
  | .stray _ => { s with message.counters.stray := min 65535 (s.message.counters.stray + 1) }.latchNode .stray
  | .empty | .own _ | .other _ _ => s

theorem State.takeSlot_of_not_joined {s : State} (h : s.joined = false) (c : SlotCase) :
    s.takeSlot c = s.strayCounted c := by
  cases c with
  | empty => rfl
  | own m => simp [State.takeSlot, State.strayCounted, h]
  | stray m => rfl
  | other src m => simp [State.takeSlot, State.strayCounted, h]

/-! ### The good-arrival count (R171) -/

theorem State.countGood_of_lt {s : State} (h : s.clock.goodArrivals < 95) :
    s.countGood = { s with clock.goodArrivals := s.clock.goodArrivals + 1 } := by
  rw [State.countGood, if_pos (by unfold joinCount; omega)]

theorem State.countGood_joins {s : State} (h : s.clock.goodArrivals = 95) : s.countGood = { s with
    clock.start := .joined, clock.goodArrivals := 96, message.quiet := some s.clock.period } := by
  rw [State.countGood, if_neg (by unfold joinCount; omega)]
  rfl

/-! ### The arrival -/

section
variable {s : State} {bytes : List Byte} (h : s.AwaitsGood bytes) (hp : s.clock.start = .passing)
include h hp

/-- A good arrival while PASSING enters the hop buffer, has its slot judged, and is counted. -/
theorem exec_frameArrival_passing {c : SlotCase} (hclass : classify s.clock.member (frameSlot bytes) = c) :
    exec (.frameArrival bytes) s = .next ((s.placed c.emission c.offered bytes).strayCounted c).countGood := by
  obtain ⟨hpass, hcurrent, hframe, hgood⟩ := h
  have hnot : (s.placed c.emission c.offered bytes).joined = false := by simp [State.joined, hp]
  rw [exec_frameArrival hpass hframe, State.arrival, if_neg (not_not.mpr hcurrent), if_pos hgood, State.goodArrival,
    hclass, s.placeArrival_eq hclass, State.takeSlot_of_not_joined hnot, if_pos hp]

theorem exec_frameArrival_passing_empty (hslot : frameSlot bytes = none) :
    exec (.frameArrival bytes) s = .next (s.placed none true bytes).countGood :=
  exec_frameArrival_passing h hp (c := .empty) (by rw [hslot]; rfl)

section
variable {m : Message} (hslot : frameSlot bytes = some m)
include hslot

theorem exec_frameArrival_passing_own (hown : m.source = memberByte s.clock.member) :
    exec (.frameArrival bytes) s = .next (s.placed none false bytes).countGood :=
  exec_frameArrival_passing h hp (c := .own m) (by rw [hslot, classify_own hown])

theorem exec_frameArrival_passing_stray (hother : m.source ≠ memberByte s.clock.member)
    (hstray : 16 ≤ m.source.toNat ∨ 15 ≤ m.hop.toNat) :
    exec (.frameArrival bytes) s = .next ({ s.placed none true bytes with
      message.counters.stray := min 65535 (s.message.counters.stray + 1) }.latchNode .stray).countGood :=
  exec_frameArrival_passing h hp (c := .stray m) (by rw [hslot, classify_stray hother hstray])

theorem exec_frameArrival_passing_other (hother : m.source ≠ memberByte s.clock.member) (hsource : m.source.toNat < 16)
    (hhop : m.hop.toNat < 15) : exec (.frameArrival bytes) s =
      .next (s.placed (some { m with hop := m.hop + 1#8 }) false bytes).countGood :=
  exec_frameArrival_passing h hp (c := .other ⟨m.source.toNat, hsource⟩ m)
    (by rw [hslot, classify_other hother hsource hhop])

end

/-- JOINING is the arrival that brings the count to 96. -/
theorem exec_joining_eq_frameArrival (hcount : s.clock.goodArrivals = 95) :
    exec (.joining bytes) s = exec (.frameArrival bytes) s := by
  obtain ⟨hpass, hcurrent, hframe, hgood⟩ := h
  have hdue : s.joiningDue bytes = true := by
    simp [State.joiningDue, State.hears, hpass, hframe, hp, hcurrent, hgood, joinCount, hcount]
  rw [exec_frameArrival hpass hframe]
  exact congrArg _ (if_pos hdue)

end

/-- Settles O14, by the class of the slot. -/
theorem passingArrivalActsOnNothing : Obligations.PassingArrivalActsOnNothing := by
  intro bytes s hawaits hp hcount
  refine ⟨fun hslot => ?_, fun m hslot => ⟨fun hown => ?_, fun hother hstray => ?_, fun hother hsource hhop => ?_⟩⟩
  · exact (exec_frameArrival_passing_empty hawaits hp hslot).trans (congrArg _ (State.countGood_of_lt hcount))
  · exact (exec_frameArrival_passing_own hawaits hp hslot hown).trans (congrArg _ (State.countGood_of_lt hcount))
  · exact (exec_frameArrival_passing_stray hawaits hp hslot hother hstray).trans
      (congrArg _ (State.countGood_of_lt hcount))
  · exact (exec_frameArrival_passing_other hawaits hp hslot hother hsource hhop).trans
      (congrArg _ (State.countGood_of_lt hcount))

/-- Settles O15: the classes of the slot as below the count, and then the joining. -/
theorem ninetySixthGoodArrivalJoins : Obligations.NinetySixthGoodArrivalJoins := by
  intro bytes s hawaits hp hcount
  rw [exec_joining_eq_frameArrival hawaits hp hcount]
  refine ⟨rfl, fun hslot => ?_, fun m hslot => ⟨fun hown => ?_, fun hother hstray => ?_, fun hother hsource hhop => ?_⟩⟩
  · exact (exec_frameArrival_passing_empty hawaits hp hslot).trans (congrArg _ (State.countGood_joins hcount))
  · exact (exec_frameArrival_passing_own hawaits hp hslot hown).trans (congrArg _ (State.countGood_joins hcount))
  · exact (exec_frameArrival_passing_stray hawaits hp hslot hother hstray).trans
      (congrArg _ (State.countGood_joins hcount))
  · exact (exec_frameArrival_passing_other hawaits hp hslot hother hsource hhop).trans
      (congrArg _ (State.countGood_joins hcount))

end Sys2Proof.Machine
end

section
/-! O17 to O20: the node's own messages, on their return, at their timeout and at their insertion. -/

namespace Sys2Proof.Machine

open Sys2Proof

/-! ### Entries retired as lost (R87, R88) -/

/-- Entries retired as lost raise the lost counter and latch LOST, each once; nothing else changes. -/
theorem State.loseEntries_eq (n : Nat) (s : State) : s.loseEntries n = { s with
    message.counters.lost :=
      if n = 0 then s.message.counters.lost else min 65535 (s.message.counters.lost + n)
    reports.vectors := s.reports.vectors.set nodeSource
      (s.reports.vectors[nodeSource].latchAll (List.replicate n .lost)) } := by
  induction n generalizing s with
  | zero => simp [State.loseEntries, EventVector.latchAll]
  | succ n ih =>
    have hlost : (if n = 0 then raise16 s.message.counters.lost else min 65535 (raise16 s.message.counters.lost + n)) =
        min 65535 (s.message.counters.lost + (n + 1)) := by
      unfold raise16 holdAt
      split <;> omega
    rw [State.loseEntries, ih]
    simp [State.latchNode, State.latch, State.count, Counters.addLost, EventVector.latchAll, List.replicate_succ, hlost]

/-- The node's vector after `n` entries are lost, as the statements write it. -/
theorem lostVectors_eq (n : Nat) (v : Vector EventVector 65) :
    v.set nodeSource (v[nodeSource].latchAll (List.replicate n .lost)) =
      if n = 0 then v
      else v.set 64 { events := v[64].events ||| NoticeEvent.lost.set, count := min 255 (v[64].count + n) } := by
  rw [EventVector.latchAll_replicate]
  split
  · exact Vector.set_getElem_self ..
  · rfl

/-! ### A returning message (R88, R89) -/

/-- R88: the first entry of the kind is retired as delivered and those before it as lost. -/
theorem State.ownReturn_of_entry {s : State} {kind : Byte} {older newer : List InFlight} {e : InFlight}
    (hflight : s.message.inFlight = older ++ e :: newer) (holder : ∀ x ∈ older, x.kind ≠ kind) (he : e.kind = kind) :
    s.ownReturn kind = { s with message.inFlight := newer }.loseEntries older.length := by
  have hfirst : s.message.inFlight.findIdx? (fun e => e.kind == kind) = some older.length := by
    rw [hflight, List.findIdx?_append, List.findIdx?_eq_none_iff.mpr (by simpa using holder)]
    simp [List.findIdx?_cons, he]
  rw [State.ownReturn, hfirst, hflight]
  simp

/-- R89: a message that matches no entry is judged by the quiet window. -/
theorem State.ownReturn_of_none {s : State} {kind : Byte} (h : ∀ x ∈ s.message.inFlight, x.kind ≠ kind) :
    s.ownReturn kind = if s.quietRunning then s else { s with
      message.counters.clash := min 65535 (s.message.counters.clash + 1) }.latchNode .memberClash := by
  have hnone : s.message.inFlight.findIdx? (fun e => e.kind == kind) = none :=
    List.findIdx?_eq_none_iff.mpr (by simpa using h)
  simp only [State.ownReturn, hnone]
  rfl

theorem State.quietRunning_iff (s : State) :
    s.quietRunning = true ↔ ∃ joinedAt, s.message.quiet = some joinedAt ∧ s.clock.period < joinedAt + 40 := by
  cases hquiet : s.message.quiet with
  | none => simp [State.quietRunning, hquiet]
  | some p => simp [State.quietRunning, hquiet, show quietLength = 40 from rfl]

/-- A message of this node that returns while JOINED leaves its slot, which is not offered. -/
theorem exec_frameArrival_own {s : State} {bytes : List Byte} {m : Message} (h : s.AwaitsGood bytes)
    (hj : s.clock.start = .joined) (hslot : frameSlot bytes = some m) (hown : m.source = memberByte s.clock.member) :
    exec (.frameArrival bytes) s = .next ((s.placed none false bytes).ownReturn m.kind) := by
  have hclass : classify s.clock.member (frameSlot bytes) = .own m := by rw [hslot, classify_own hown]
  rw [exec_frameArrival_joined h hj, s.placeArrival_eq hclass, hclass]
  exact congrArg _ (if_pos (by simp [State.joined, hj]))

/-- Settles O17: the first entry of the kind, and those before it. -/
theorem returnRetiresOlderEntriesAsLost : Obligations.ReturnRetiresOlderEntriesAsLost := by
  intro bytes m older newer e s hawaits hj hslot hown hflight holder he
  have hreturn := State.ownReturn_of_entry (s := s.placed none false bytes) hflight holder he
  have hempty : older.length = 0 ↔ older = [] := List.length_eq_zero_iff
  rw [exec_frameArrival_own hawaits hj hslot hown, hreturn, State.loseEntries_eq, lostVectors_eq]
  simp only [hempty]

/-- Settles O18, by whether the quiet window is running. -/
theorem unmatchedReturnIsAClashOutsideTheQuietWindow : Obligations.UnmatchedReturnIsAClashOutsideTheQuietWindow := by
  intro bytes m s hawaits hj hslot hown hnone
  have hquiet := (s.placed none false bytes).quietRunning_iff
  rw [exec_frameArrival_own hawaits hj hslot hown, State.ownReturn_of_none (s := s.placed none false bytes) hnone]
  refine ⟨fun hrunning => ?_, fun hover => ?_⟩
  · rw [if_pos (hquiet.mpr hrunning)]
  · rw [if_neg]
    rw [hquiet]
    rintro ⟨joinedAt, hjoined, hperiod⟩
    exact absurd (hover joinedAt hjoined) (by simpa using hperiod)

/-! ### What 40 periods end (R87, R89) -/

/-- Settles O19: the quiet window by its start, and the entries by their timeout. -/
theorem fortyPeriodsEndTheQuietWindowAndRetireEntries : Obligations.FortyPeriodsEndTheQuietWindowAndRetireEntries := by
  refine ⟨fun joinedAt s hquiet => ⟨fun hover => ?_, fun hrunning => ?_⟩, ?_⟩
  · have hnot : s.quietRunning = false := by
      rw [Bool.eq_false_iff, ne_eq, s.quietRunning_iff, hquiet]
      simpa using hover
    exact congrArg _ (if_pos ⟨by simp [hquiet], hnot⟩)
  · have hquietRunning := s.quietRunning_iff.mpr ⟨joinedAt, hquiet, hrunning⟩
    exact congrArg _ (if_neg (by simp [hquietRunning]))
  · rintro gone s rfl
    have hkept : (fun e => !s.timedOut e) = fun e : InFlight => decide (s.clock.period < e.period + 40) := by
      funext e
      rw [State.timedOut, ← decide_not, decide_eq_decide, flightLimit]
      omega
    show Host.Outcome.next s.timeoutEntries = _
    rw [State.timeoutEntries, State.loseEntries_eq, lostVectors_eq, hkept]
    rfl

/-! ### The insertion (R90) -/

/-- Settles O20: the conditions of the insertion hold, or one of them fails. -/
theorem insertionTakesTheHeadOfTheQueue : Obligations.InsertionTakesTheHeadOfTheQueue := by
  refine fun s => ⟨fun e m rest hj htransmit hdue hoffered hqueue hsize => ?_, fun hfails => ?_⟩
  · have hinsertable : s.insertable = some (e, m) := by
      simp [State.insertable, hdue, hqueue, State.joined, hj, htransmit, hoffered, flightSize, hsize]
    show Host.Outcome.next s.insert = _
    simp only [State.insert, hinsertable, hqueue]
    rfl
  · have hnone : s.insertable = none := by
      unfold State.insertable
      split
      · rename_i e m rest hdue hqueue
        refine if_neg ?_
        rintro ⟨hjoined, htransmit, hoffered, hsize⟩
        rcases hfails with hstart | hleft | hempty | hfull | hunoffered
        · exact hstart (by simpa [State.joined] using hjoined)
        · exact hleft htransmit
        · simp [hempty] at hqueue
        · exact absurd hsize (Nat.not_lt.mpr hfull)
        · simp [hunoffered e hdue] at hoffered
      · rfl
    show Host.Outcome.next s.insert = _
    simp only [State.insert, hnone]

end Sys2Proof.Machine
end

section
/-! O16: which destinations are accepted, and what an accepted message does. -/

namespace Sys2Proof.Machine

open Sys2Proof

/-! ### Acceptance (R84) -/

theorem AcceptRange.accepts_iff (r : AcceptRange) (dest : Byte) :
    r.accepts dest = true ↔ r.enabled = true ∧ dest &&& r.mask = r.base &&& r.mask := by
  simp [AcceptRange.accepts]

theorem State.accepts_iff (dest : Byte) (s : State) : s.accepts dest = true ↔
    dest = memberByte s.clock.member ∨ dest = 255#8 ∨
      (16 ≤ dest.toNat ∧ dest.toNat ≤ 254 ∧ ∃ r ∈ [s.clock.profile.range1, s.clock.profile.range2], r.enabled = true ∧
        dest &&& r.mask = r.base &&& r.mask) := by
  simp [State.accepts, AcceptRange.accepts_iff, broadcast, or_assoc, and_assoc]

/-! ### Acting by the kind (R85, R98) -/

section
variable {source : Member} {s : State} {kind : Byte} {p : List Byte}

/-- R85: a kind the node acts on acts as its command. -/
theorem exec_of_commandOf (hacts : s.Acts source) {c : Instr} (h : commandOf source kind p = some c) :
    exec c s = .next (s.act kind source p) := by
  unfold commandOf at h
  split at h
  case h_15 hkind =>
    simp only [State.act, hkind]
    split at h
    case h_8 => cases h
    all_goals
      rename_i hitem
      cases h
      simp only [State.actQuery, hitem]
      exact next_whenActing hacts rfl
  case h_25 => cases h
  all_goals
    rename_i hkind
    cases h
    simp only [State.act, hkind]
    exact next_whenActing hacts rfl

/-- R98: a QUERY of an item outside the table. -/
theorem State.act_query_malformed (hitem : (byteAt p 0).toNat = 0 ∨ 7 < (byteAt p 0).toNat) :
    s.act 0x1E#8 source p = s.refuse source 0x1E#8 (byteAt p 1) .malformed := by
  show s.actQuery source (byteAt p 0) (byteAt p 1) (byteAt p 2) = _
  unfold State.actQuery
  split
  case h_8 => rfl
  all_goals omega

/-- R85: any other kind is not acted on. -/
theorem State.act_of_unknown (h : kind.toNat < 0x10 ∨ (0x21 < kind.toNat ∧ kind.toNat < 0x40) ∨ 0x45 < kind.toNat) :
    s.act kind source p = s := by
  unfold State.act
  split
  case h_25 => rfl
  all_goals omega

end

/-- An accepted message of another member that arrives while JOINED is forwarded, and acted on once its frame is placed. -/
theorem exec_frameArrival_accepted {bytes : List Byte} {m : Message} {source : Member} {s : State} (h : s.AwaitsGood bytes)
    (hacts : s.Acts source) (hslot : frameSlot bytes = some m) (hsource : m.source = memberByte source)
    (hhop : m.hop.toNat < 15) (haccepts : s.accepts m.dest = true) : exec (.frameArrival bytes) s =
      .next ((s.placed (some { m with hop := m.hop + 1#8 }) false bytes).act m.kind source m.payload.toList) := by
  have hclass : classify s.clock.member (frameSlot bytes) = .other source m := by
    simp [hslot, classify, hsource, hacts.2, hhop]
  have haccepted : ((s.placed (some m.forwarded) false bytes).joined &&
      (s.placed (some m.forwarded) false bytes).accepts m.dest) = true := by
    rw [Bool.and_eq_true]
    exact ⟨by simp [State.joined, hacts.1], haccepts⟩
  rw [exec_frameArrival_joined h hacts.1, s.placeArrival_eq hclass, hclass]
  exact congrArg _ (if_pos haccepted)

/-- Settles O16: the destinations, and an accepted message by its kind. -/
theorem acceptedMessageActsAsItsCommand : Obligations.AcceptedMessageActsAsItsCommand := by
  refine ⟨fun dest s => s.accepts_iff dest, ?_⟩
  rintro bytes m source placed s hawaits hacts hslot hsource hhop haccepts rfl
  rw [exec_frameArrival_accepted hawaits hacts hslot hsource hhop haccepts]
  refine ⟨fun c hc => ?_, ?_, ?_⟩
  · exact (exec_of_commandOf (s := s.placed _ false bytes) hacts hc).symm
  · rintro item rfl hkind hitem
    rw [hkind, State.act_query_malformed hitem]
  · rintro kind rfl hunknown
    rw [State.act_of_unknown hunknown]

end Sys2Proof.Machine
end

section
/-! O51: the answers to queries (R98, with R24, R80, R106, R132, R146 and R161). -/

namespace Sys2Proof.Machine

open Sys2Proof

/-! ### A list in parts -/

/-- A list cut into parts: each part but the last is full, the last is not empty. -/
structure Parted {α : Type} (size : Nat) (l : List α) (parts : List (List α)) : Prop where
  flatten : parts.flatten = l
  nonempty : ∀ p ∈ parts, p ≠ []
  full : ∀ (front : List (List α)) (last : List α), parts = front ++ [last] →
    last.length ≤ size ∧ ∀ p ∈ front, p.length = size
  length : parts.length = (l.length + (size - 1)) / size

section
variable {α : Type} {size : Nat}

theorem Parted.nil (hsize : 0 < size) : Parted size ([] : List α) [] where
  flatten := rfl
  nonempty := by simp
  full := by simp
  length := (Nat.div_eq_of_lt (by simpa using hsize)).symm

/-- A list that fits one part. -/
theorem Parted.single {l : List α} (hl : l ≠ []) (hsize : l.length ≤ size) : Parted size l [l] where
  flatten := by simp
  nonempty := by simpa using hl
  full := fun front last e => by
    obtain ⟨rfl, hlast⟩ := List.append_inj' (s₁ := []) e rfl
    simpa [← List.singleton_inj.mp hlast] using hsize
  length := by
    have hpos := List.length_pos_iff.mpr hl
    refine (Nat.div_eq_of_lt_le ?_ ?_).symm <;> simp <;> omega

/-- One full part ahead of the others. -/
theorem Parted.cons {first l : List α} {parts : List (List α)} (h : Parted size l parts) (hl : l ≠ [])
    (hfirst : first.length = size) (hsize : 0 < size) : Parted size (first ++ l) (first :: parts) where
  flatten := by rw [List.flatten_cons, h.flatten]
  nonempty := by
    have hne : first ≠ [] := List.length_pos_iff.mp (hfirst ▸ hsize)
    simpa [hne] using h.nonempty
  full := fun front last e => by
    cases front with
    | nil =>
      obtain ⟨-, rfl⟩ := List.cons_eq_cons.mp e
      exact absurd h.flatten.symm hl
    | cons p front =>
      obtain ⟨rfl, hparts⟩ := List.cons_eq_cons.mp e
      obtain ⟨hlast, hfront⟩ := h.full front last hparts
      exact ⟨hlast, List.forall_mem_cons.mpr ⟨hfirst, hfront⟩⟩
  length := by
    have hsum : (first ++ l).length + (size - 1) = l.length + (size - 1) + size := by
      rw [List.length_append]
      omega
    rw [List.length_cons, h.length, hsum, Nat.add_div_right _ hsize]

theorem chunksOf_parted (hsize : 0 < size) (fuel : Nat) {l : List α} (hfuel : l.length ≤ fuel) :
    Parted size l (chunksOf size fuel l) := by
  induction fuel generalizing l with
  | zero =>
    obtain rfl := List.length_eq_zero_iff.mp (Nat.le_zero.mp hfuel)
    exact .nil hsize
  | succ fuel ih =>
    cases l with
    | nil => exact .nil hsize
    | cons a l =>
      have hrest : ((a :: l).drop size).length ≤ fuel := by
        rw [List.length_drop]
        simp only [List.length_cons] at hfuel ⊢
        omega
      show Parted size (a :: l) ((a :: l).take size :: chunksOf size fuel ((a :: l).drop size))
      by_cases hlast : (a :: l).length ≤ size
      · rw [List.take_of_length_le hlast, List.drop_of_length_le hlast]
        have hnone : chunksOf size fuel ([] : List α) = [] := by cases fuel <;> rfl
        rw [hnone]
        exact .single (by simp) hlast
      · have hmore : (a :: l).drop size ≠ [] := by
          rw [ne_eq, List.drop_eq_nil_iff]
          exact hlast
        have hparted := (ih hrest).cons (first := (a :: l).take size) hmore (by rw [List.length_take]; omega) hsize
        rwa [List.take_append_drop] at hparted

end

theorem toList_eq_map {α : Type} {n : Nat} (v : Vector α n) : v.toList = (List.finRange n).map fun i => v[i] :=
  List.ext_getElem (by simp) fun _ _ _ => by simp

/-! ### The answers by their fields -/

section
variable (s : State)

/-- R98, R106: an empty list in one part, any other two cues to a part. -/
theorem State.cueShares_parted {n : StripNo} (h : s.cueList n ≠ []) :
    ∃ parts, s.cueShares n = parts.map .cues ∧ Parted 2 (s.cueList n) parts := by
  refine ⟨chunksOf 2 (s.cueList n).length (s.cueList n), ?_, chunksOf_parted (by omega) _ le_rfl⟩
  unfold State.cueShares
  split
  · exact absurd ‹_› h
  · rfl

theorem State.cueShares_ne_nil (n : StripNo) : s.cueShares n ≠ [] := by
  by_cases hempty : s.cueList n = []
  · simp [State.cueShares, hempty]
  · obtain ⟨parts, hshares, hparted⟩ := s.cueShares_parted hempty
    rw [hshares, ne_eq, List.map_eq_nil_iff]
    rintro rfl
    exact hempty hparted.flatten.symm

/-- R132: the free-stack depths of the three tables. -/
theorem State.freeDepths_eq : (s.census.tables.toList.map fun t => t.free.length) =
    [(s.table 0).free.length, (s.table 1).free.length, (s.table 2).free.length] := by
  rw [toList_eq_map]
  rfl

theorem CensusTable.keys_eq (t : CensusTable) :
    t.keys = (List.finRange 128).flatMap fun i => homeKeys t.home[i] := by
  rw [CensusTable.keys, toList_eq_map, List.flatMap_map]

/-- R132: the summary, then the keys, twelve to a part. -/
theorem State.censusShares_parted : ∃ parts, s.censusShares = .censusSummary s.censusSummary :: parts.map .censusKeys ∧
    Parted 12 (s.table s.census.roles.current).keys parts :=
  ⟨_, rfl, chunksOf_parted (by omega) _ le_rfl⟩

/-- R146: the members and the waiters of a group. -/
theorem State.groupReport_eq (g : GroupNo) : s.groupReport g =
    { group := g, lead := (s.group g).lead
      isLocal := match (s.group g).lead with
        | none => false
        | some k => decide (k.member = s.clock.member)
      silent := (s.group g).silent, mark := (s.group g).mark
      members := (List.finRange 32).filter fun n => (s.strip n).linkGroup = some g
      waiters := (List.finRange 32).filter fun n => decide ((s.strip n).linkGroup = some g) && (s.strip n).touched &&
        decide ((s.strip n).mode ≠ .read) && decide ((s.group g).lead ≠ some { member := s.clock.member, strip := n }) } := by
  have hlocal : s.leadIsLocal g = match (s.group g).lead with
      | none => false
      | some k => decide (k.member = s.clock.member) := by
    cases hlead : (s.group g).lead with
    | none => simp [State.leadIsLocal, hlead]
    | some k => exact State.leadIsLocal_of_lead hlead
  have hmember (n : StripNo) : s.isMember g n = decide ((s.strip n).linkGroup = some g) := beq_eq_decide ..
  have hwaiter (n : StripNo) : s.isWaiter g n = (decide ((s.strip n).linkGroup = some g) && (s.strip n).touched &&
      decide ((s.strip n).mode ≠ .read) &&
      decide ((s.group g).lead ≠ some { member := s.clock.member, strip := n })) := by
    simp only [State.isWaiter, hmember, State.leads, State.ownKey, bne, beq_eq_decide, ne_eq, decide_not]
  rw [State.groupReport, hlocal, funext hmember, funext hwaiter]
  rfl

theorem State.anchorShares_ne_nil (lane : LaneNo) : s.anchorShares lane ≠ [] := by
  unfold State.anchorShares
  split <;> simp

/-- R80: a lane that is not anchored here. -/
theorem State.anchorShares_of_none {lane : LaneNo} (h : ∀ a ∈ s.outputs.anchors, a.lane ≠ lane) :
    s.anchorShares lane = [.anchor 1 lane none] := by
  have hnone : s.anchorOf lane = none := List.findIdx?_eq_none_iff.mpr (by simpa using h)
  rw [State.anchorShares, hnone]

/-- R80: an anchored lane reports its anchor in two parts. -/
theorem State.anchorShares_of_anchor {lane : LaneNo} {before after : List Anchor} {a : Anchor}
    (h : s.outputs.anchors = before ++ a :: after) (ha : a.lane = lane) (hbefore : ∀ x ∈ before, x.lane ≠ lane) :
    s.anchorShares lane = [.anchor 1 lane (some (a.report s.clock.profile.latency before.length)),
      .anchor 2 lane (some (a.report s.clock.profile.latency before.length))] := by
  have hnumber : s.anchorOf lane = some before.length := by
    rw [State.anchorOf, h, List.findIdx?_append, List.findIdx?_eq_none_iff.mpr (by simpa using hbefore)]
    simp [List.findIdx?_cons, ha]
  simp [State.anchorShares, hnumber, h]

end

/-- R132: the unused key places of a part hold 0. -/
theorem byteAt_censusKeys {item object : Byte} {part parts k : Nat} {keys : List Key} (hk : k < 24)
    (hunused : keys.length ≤ Config.keyPlace k) :
    byteAt (Body.reply item object part parts (.censusKeys keys)).bytes (4 + k) = 0#8 := by
  have hbyte : (ReplyShare.censusKeys keys).byte k = 0#8 := if_neg (Nat.not_lt.mpr hunused)
  rw [Nat.add_comm]
  simp [byteAt, Body.bytes, hk, hbyte]

/-! ### A reply that finds room (R98) -/

/-- Messages that are never coalesced join the tail one after another. -/
theorem State.foldl_offer_of_room {α : Type} {f : α → OutMsg} (l : List α) {s : State}
    (hf : ∀ a ∈ l, ∀ q, coalesce (f a) q = none) (hroom : s.message.outbound.length + l.length ≤ 32) :
    l.foldl (fun t a => t.offer (f a)) s = { s with message.outbound := s.message.outbound ++ l.map f } := by
  induction l generalizing s with
  | nil => simp
  | cons a l ih =>
    rw [List.length_cons] at hroom
    rw [List.foldl_cons, State.offer_of_room (hf a (by simp) _) (by omega),
      ih (fun b hb => hf b (by simp [hb])) (by simp; omega)]
    simp

/-- R98: what follows an answer: COUNTERS with the clear flag sets the counters to 0. -/
def State.queried (item clear : Byte) (s : State) : State :=
  { s with message.counters := if item = 7#8 ∧ clear ≠ 0#8 then Counters.zero else s.message.counters }

theorem State.queried_counters (clear : Byte) : State.queried QueryItem.counters.code clear = fun s =>
    if yes clear then s.count fun _ => Counters.zero else s := by
  funext s
  by_cases h : clear = 0#8
  · simp [State.queried, yes, h]
  · simp [State.queried, yes, h, QueryItem.code, State.count]

/-- Any other query changes nothing more. -/
theorem State.queried_eq_id {item : Byte} (h : item ≠ 7#8) (clear : Byte) : State.queried item clear = id :=
  funext fun s => by simp [State.queried, h]

section
variable {source : Member} {item : QueryItem} {object : Byte} {shares : List ReplyShare} {after : State → State} {s : State}

theorem State.answer_of_room (h : s.message.outbound.length + shares.length ≤ 32) :
    s.answer source item object shares after = after { s with
      message.outbound := s.message.outbound ++ shares.mapIdx fun part share =>
        { dest := memberByte source, body := .reply item.code object (part + 1) shares.length share } } := by
  have hreply : ∀ b ∈ replyParts item.code object shares, ∀ q,
      coalesce { dest := memberByte source, body := b } q = none := by
    intro b hb q
    obtain ⟨i, _, rfl⟩ := List.mem_mapIdx.mp hb
    rfl
  have hfree : ¬s.freeEntries < shares.length := by
    unfold State.freeEntries queueLimit
    omega
  rw [State.answer, if_neg hfree, State.foldl_offer_of_room (f := fun b => { dest := memberByte source, body := b }) _ hreply
    (by simpa [replyParts] using h)]
  have hparts : (replyParts item.code object shares).map (fun b => ({ dest := memberByte source, body := b } : OutMsg)) =
      shares.mapIdx fun part share =>
        { dest := memberByte source, body := .reply item.code object (part + 1) shares.length share } :=
    List.ext_getElem (by simp [replyParts]) fun _ _ _ => by simp [replyParts]
  rw [hparts]

theorem State.answer_of_full (hshares : shares ≠ []) (h : 32 < s.message.outbound.length + shares.length) :
    s.answer source item object shares after = s.refuse source 0x1E#8 object .busy := by
  have hpos := List.length_pos_iff.mpr hshares
  refine if_pos ?_
  unfold State.freeEntries queueLimit
  omega

end

/-- Settles O51: the answers by their fields, and then whether a query's answer finds room. -/
theorem queriesAreAnsweredWholeOrRefusedBusy : Obligations.QueriesAreAnsweredWholeOrRefusedBusy := by
  refine ⟨fun s => ⟨?_, fun n => ⟨fun hempty => ?_, fun hcues => ?_⟩, ?_, s.groupReport_eq, ?_, fun lane =>
    ⟨s.anchorShares_of_none, ?_⟩, rfl⟩, fun _ _ _ _ _ _ => byteAt_censusKeys, ?_⟩
  · rintro n a rfl
    rfl
  · rw [State.cueShares, hempty]
  · obtain ⟨parts, hshares, hparted⟩ := s.cueShares_parted hcues
    exact ⟨parts, hshares, hparted.flatten, hparted.nonempty, hparted.full⟩
  · obtain ⟨parts, hshares, hparted⟩ := s.censusShares_parted
    refine ⟨parts, ?_, hparted.flatten.trans (CensusTable.keys_eq _), hparted.length, hparted.full⟩
    rw [hshares, State.censusSummary, State.freeDepths_eq]
    rfl
  · rintro u c rfl
    rfl
  · rintro before after a hanchors ha hbefore report rfl
    exact s.anchorShares_of_anchor hanchors ha hbefore
  · intro source object clear i item shares s hacts hquery
    have hanswer : ∃ q : QueryItem, q.code = item ∧ shares ≠ [] ∧
        exec i s = .next (s.answer source q object shares (State.queried item clear)) := by
      rcases hquery with ⟨rfl, rfl, n, hn, rfl⟩ | ⟨rfl, rfl, n, hn, rfl⟩ | ⟨rfl, rfl, rfl⟩ | ⟨rfl, rfl, g, hg, rfl⟩ |
        ⟨rfl, rfl, u, hu, rfl⟩ | ⟨rfl, rfl, lane, hlane, rfl⟩ | ⟨rfl, rfl, rfl⟩
      · refine ⟨.strip, rfl, by simp [State.stripShares], next_whenActing hacts ?_⟩
        rw [State.queried_eq_id (by decide), State.actQueryStrip, stripOf_eq_some hn]
      · refine ⟨.cues, rfl, s.cueShares_ne_nil n, next_whenActing hacts ?_⟩
        rw [State.queried_eq_id (by decide), State.actQueryCues, stripOf_eq_some hn]
      · refine ⟨.census, rfl, List.cons_ne_nil _ _, next_whenActing hacts ?_⟩
        rw [State.queried_eq_id (by decide), State.actQueryCensus]
      · refine ⟨.group, rfl, List.cons_ne_nil _ _, next_whenActing hacts ?_⟩
        rw [State.queried_eq_id (by decide), State.actQueryGroup, groupOf_eq_some hg]
      · refine ⟨.capture, rfl, List.cons_ne_nil _ _, next_whenActing hacts ?_⟩
        rw [State.queried_eq_id (by decide), State.actQueryCapture, unitOf_eq_some hu]
      · refine ⟨.anchor, rfl, s.anchorShares_ne_nil lane, next_whenActing hacts ?_⟩
        rw [State.queried_eq_id (by decide), State.actQueryAnchor, laneOf_eq_some hlane]
      · refine ⟨.counters, rfl, List.cons_ne_nil _ _, next_whenActing hacts ?_⟩
        rw [State.actQueryCounters, ← State.queried_counters]
        rfl
    obtain ⟨q, rfl, hshares, hexec⟩ := hanswer
    rw [hexec]
    exact ⟨fun hroom => by rw [State.answer_of_room hroom]; rfl, fun hfull => by rw [State.answer_of_full hshares hfull]⟩

end Sys2Proof.Machine
end
